-- ==== Sys2Proof/Word.lean ====
section
/-!
DEFINITION. The widths the manual treats as bits: a byte of the control link, a word of the two memory ports and a byte
mask (00_scope.md, Terms: "word", "byte mask").
-/
namespace Sys2Proof

/-- One byte of the control link. -/
abbrev Byte := BitVec 8

/-- Thirty-two bits: a word of data, or a byte address. Byte 0 is the least significant. -/
abbrev Word := BitVec 32

/-- Four bits that select the bytes of a word; bit n selects byte n. -/
abbrev Mask := BitVec 4

/-- A frame number, a frame mask or a release sequence number: sixteen bits that wrap. -/
abbrev Half := BitVec 16

end Sys2Proof
end

