-- ==== Sys2Proof/Syntax.lean ====
section
/-!
DEFINITION. The commands and events of the part, one constructor for each row of spec/opcode_table.json, and the types of
their operands.
-/
namespace Sys2Proof

/-- A group number 0 to 7. -/
abbrev GroupId := Fin 8

/-- A memory-port tag 0 to 3. -/
abbrev TagId := Fin 4

/-- What a control-link frame carried after its command code, as the bridge received it (R162, R164): the complete bytes
from byte 1 on, and the bits that followed the last complete byte. -/
structure Frame where
  bytes : List Byte
  extraBits : Fin 8 := 0
  deriving DecidableEq, Repr

/-- One beat of a write: 32 data bits and a byte mask (R52). -/
structure WriteBeat where
  data : Word
  mask : Mask
  deriving DecidableEq, Repr

/-- The kind of a transaction with its beats (R52). -/
inductive Transfer where
  /-- A READ of `count` words. -/
  | read (count : Nat)
  /-- A WRITE, beat 0 first. -/
  | write (beats : List WriteBeat)
  deriving DecidableEq, Repr

/-- A system-port transaction (R52). -/
structure Transaction where
  requester : Fin 16
  start : Word
  transfer : Transfer
  deriving DecidableEq, Repr

/-- The status of a response from the memory target (R101). -/
inductive Answer where
  | okay
  | error
  deriving DecidableEq, Repr

/-- The commands and events, in the order of the table. -/
inductive Instr where
  /-- NOP (R174). -/
  | nop (f : Frame)
  /-- BRIDGE_STATUS (R175). -/
  | bridgeStatus (f : Frame)
  /-- SOFT_RESET (R177). -/
  | softReset (f : Frame)
  /-- GROUP_CONFIG (R11). -/
  | groupConfig (f : Frame)
  /-- GROUP_OPEN (R12). -/
  | groupOpen (f : Frame)
  /-- GROUP_CLOSE (R13). -/
  | groupClose (f : Frame)
  /-- GROUP_ARM (R16). -/
  | groupArm (f : Frame)
  /-- GROUP_DISARM (R18). -/
  | groupDisarm (f : Frame)
  /-- GROUP_LAUNCH (R19). -/
  | groupLaunch (f : Frame)
  /-- GROUP_DISCARD (R20). -/
  | groupDiscard (f : Frame)
  /-- GROUP_STATUS (R23). -/
  | groupStatus (f : Frame)
  /-- ENTRY_READ (R49). -/
  | entryRead (f : Frame)
  /-- WINDOW_SET (R59). -/
  | windowSet (f : Frame)
  /-- WINDOW_CLEAR (R60). -/
  | windowClear (f : Frame)
  /-- WINDOW_READ (R61). -/
  | windowRead (f : Frame)
  /-- POINT_SET (R129). -/
  | pointSet (f : Frame)
  /-- POINT_READ (R130). -/
  | pointRead (f : Frame)
  /-- TIMEBASE_CONFIG (R120). -/
  | timebaseConfig (f : Frame)
  /-- TIMEBASE_READ (R123). -/
  | timebaseRead (f : Frame)
  /-- TIMEBASE_LOAD (R122). -/
  | timebaseLoad (f : Frame)
  /-- PORT_CONFIG (R103). -/
  | portConfig (f : Frame)
  /-- QUEUE_POP (R155). -/
  | queuePop (f : Frame)
  /-- IRQ_CONFIG (R159). -/
  | irqConfig (f : Frame)
  /-- UNKNOWN_CMD: a frame whose byte 0, `code`, names no command (R165). -/
  | unknownCmd (code : Byte) (f : Frame)
  /-- FRAME_WITHOUT_COMPLETE_BYTE: a frame of fewer than eight bits (R164). -/
  | frameWithoutCompleteByte (bits : Fin 8)
  /-- POWER_ON_RESET: the internal power-on reset holds the part in reset (R190). -/
  | powerOnReset
  /-- RST_N: the reset input goes low for `lowSamples` consecutive rising edges of CLK (R180, R190). -/
  | rstN (lowSamples : Nat)
  /-- ACCEPTANCE: a transaction is offered on the system port (R53). -/
  | acceptance (t : Transaction)
  /-- JUDGEMENT of the head transaction (R54). -/
  | judgement
  /-- TRANSACTION_RESPONSE (R56). -/
  | transactionResponse
  /-- GRANT (R98). -/
  | grant
  /-- RESPONSE: the target answers on a tag (R101). -/
  | response (tag : TagId) (answer : Answer) (data : Word)
  /-- RESPONSE_TIMEOUT: the timer of a tag reaches its timeout (R100). -/
  | responseTimeout (tag : TagId)
  /-- TAKING (R81). -/
  | taking
  /-- SETTLING_END (R83). -/
  | settlingEnd
  /-- RELEASE_COMPLETION (R88). -/
  | releaseCompletion
  /-- LINE_TIMER_EXPIRY (R109). -/
  | lineTimerExpiry
  /-- FSYNC_EDGE: FSYNC has been sampled low `low` times in a row and then high `high` times in a row (R113, R190). -/
  | fsyncEdge (low high : Nat)
  /-- TRIG_EDGE: TRIG has been sampled low `low` times in a row and then high `high` times in a row (R135, R190). -/
  | trigEdge (low high : Nat)
  /-- DEADLINE_EXPIRY: the expiry notice of a group (R142, R25). -/
  | deadlineExpiry (g : GroupId)
  /-- RESET_RELEASE: the part leaves reset with TRIG at `trigHigh`, and CS_N low already when `csLow` (R190, R135, R163). -/
  | resetRelease (trigHigh csLow : Bool)
  deriving DecidableEq, Repr

end Sys2Proof
end

