-- ==== Sys2Proof/Config.lean ====
section
/-!
DEFINITION. The free values: what the manual leaves open inside one event. None has a body, so a theorem holds for every
value of each. Each is applied to the model's own counter `State.freeIndex`, which advances at each use.
-/
namespace Sys2Proof

/-- R100, R101: an event of the memory port: a response on a tag, or the timeout of the request on a tag. -/
inductive PortEvent where
  | response (tag : TagId) (answer : Answer) (data : Word)
  | timeout (tag : TagId)
  deriving DecidableEq, Repr

namespace Config

/-- R190: whether a pulse of FSYNC, TRIG or RST_N that is shorter than the manual asks for is seen. Free value, log 5. -/
opaque shortPulseSeen : Nat → Bool

/-- R64, R89: how many judgements of head transactions are taken between the end of a release and the taking of the next
group that the same event makes. Free value, log 4. -/
opaque judgementsBeforeTaking : Nat → Nat

/-- R190: whether a TBCLK period ends in a given CLK period. TBCLK runs at any frequency up to that of CLK, and may stop.
Free value, log 6. -/
opaque tbclkPeriodEnds : Nat → Bool

/-- R190: whether CLK runs in a stretch of time in which no command or event is sent. CLK runs at any frequency up to 200
MHz, and the part resumes where it stood when a stopped CLK starts again. Free value, log 28. -/
opaque clkRuns : Nat → Bool

/-- R54, R70: the events of the memory port between two beats of a judgement. R54 bars commands, notices, marks and takings
there, and R70 lets a beat find room that another event has freed. Free value, log 30. -/
opaque portEventsBetweenBeats : Nat → List PortEvent

end Config
end Sys2Proof
end

