-- ==== Sys2Proof/Machine/State.lean ====
section
/-!
DEFINITION. Everything the manual gives the part to hold, as plain data, the reasons a step can stop, and the part right
after reset.
-/
namespace Sys2Proof.Machine

/-! ## Groups (R1 to R5) and entries (R30) -/

/-- The mode of a group (R2). -/
inductive StagingMode where
  | coalesce
  | ordered
  deriving DecidableEq, Repr

/-- The fate of a beat that finds no room (R2, R70). -/
inductive OverflowPolicy where
  | refuse
  | through
  deriving DecidableEq, Repr

/-- What a failed release write does (R2, R86, R87). -/
inductive ErrorPolicy where
  /-- ABORT -/
  | abort
  /-- CONTINUE -/
  | carryOn
  deriving DecidableEq, Repr

/-- What an expired deadline does (R2, R25). -/
inductive DeadlineAction where
  | cancel
  | force
  deriving DecidableEq, Repr

/-- The states of a group (R3). -/
inductive GroupState where
  | idle
  /-- OPEN -/
  | opened
  | closed
  | armed
  | pending
  | releasing
  | faulted
  deriving DecidableEq, Repr

/-- The launch conditions (R3). -/
inductive LaunchCondition where
  | immediate
  | nextFrame
  | point (p : Fin 8)
  | trig
  | soft
  | after (h : GroupId)
  deriving DecidableEq, Repr

/-- The configuration part of a group record (R2). A `filter` of `none` is ANY. -/
structure GroupConfig where
  mode : StagingMode := .coalesce
  cap : Nat := 128
  overflow : OverflowPolicy := .refuse
  filter : Option (Fin 16) := none
  errorPolicy : ErrorPolicy := .abort
  repeats : Nat := 0
  deadline : Nat := 0
  deadlineAction : DeadlineAction := .cancel
  deriving DecidableEq, Repr

/-- One staged word (R30). The owning group and the position are the list it stands in and its index there. -/
structure Entry where
  address : Word
  data : Word
  mask : Mask
  deriving DecidableEq, Repr

/-- A group record (R1 to R5), with the group's list in the staging store (R32) and the capture unit's overflow-reported
mark (R71). The defaults are the values of R6. -/
structure GroupRecord where
  config : GroupConfig := {}
  state : GroupState := .idle
  condition : Option LaunchCondition := none
  deadlineRemaining : Option Nat := none
  repeatsRemaining : Nat := 0
  checkCode : Option Word := none
  sequence : Half := 0
  lastWritten : Nat := 0
  lastFailed : Nat := 0
  overflowed : Bool := false
  collided : Bool := false
  forced : Bool := false
  missed : Bool := false
  collisionCount : Nat := 0
  missedCount : Nat := 0
  entries : List Entry := []
  overflowReported : Bool := false
  deriving DecidableEq, Repr

/-! ## Windows (R57) and launch points (R127) -/

/-- The write-miss policy of a window (R57). -/
inductive MissPolicy where
  | pass
  | refuse
  deriving DecidableEq, Repr

/-- The read policy of a window (R57). -/
inductive ReadPolicy where
  | pass
  | merge
  deriving DecidableEq, Repr

/-- A window record (R57). -/
structure Window where
  valid : Bool := false
  base : Word := 0
  limit : Word := 0
  group : GroupId := 0
  miss : MissPolicy := .pass
  read : ReadPolicy := .pass
  deriving DecidableEq, Repr

/-- A launch point record (R127). -/
structure LaunchPoint where
  enabled : Bool := false
  frameValue : Half := 0
  frameMask : Half := 0
  lineCheck : Bool := false
  lineValue : Nat := 0
  deriving DecidableEq, Repr

/-! ## The ingress queue (R52, R56) -/

/-- The outcome of a beat (R56). A write beat carries the data 0. -/
inductive BeatResult where
  /-- handed to the memory port, not yet finished -/
  | outstanding
  /-- finished OKAY or ERROR, with the data of a READ -/
  | finished (answer : Answer) (data : Word)
  deriving DecidableEq, Repr

/-- A transaction that holds a place of the ingress queue. It is DISPATCHED when `dispatched`, and WAITING until then; the
results of its beats are listed from its dispatch on. `id` is the model's own name for it. -/
structure Ingress where
  id : Nat
  request : Transaction
  dispatched : Bool := false
  results : List BeatResult := []
  deriving DecidableEq, Repr

/-- A response returned to a master (R56): for a READ each beat's outcome and data, for a WRITE one outcome. -/
inductive SystemResponse where
  | read (requester : Fin 16) (beats : List BeatResult)
  | write (requester : Fin 16) (answer : Answer)
  deriving DecidableEq, Repr

/-! ## The memory port (R95 to R99) -/

/-- What a pass-through request asks of the target (R77). -/
inductive PortAccess where
  | read
  | write (data : Word) (mask : Mask)
  deriving DecidableEq, Repr

/-- The staged bytes held with the memory read of a merged read (R75). -/
structure Overlay where
  data : Word
  mask : Mask
  deriving DecidableEq, Repr

/-- A pass-through request (R77): what it asks, its settle mark, the transaction and beat it belongs to, and the overlay
held with it. -/
structure PassRequest where
  address : Word
  access : PortAccess
  mark : Option GroupId
  id : Nat
  beat : Nat
  overlay : Option Overlay := none
  deriving DecidableEq, Repr

/-- An issued request with the block that made it: the capture unit or the release engine (R95). -/
inductive PortRequest where
  | passThrough (r : PassRequest)
  | release (e : Entry)
  deriving DecidableEq, Repr

/-- The state of a tag (R95). A BUSY tag holds its response timer and the timeout in force when it was issued (R99). -/
inductive TagState where
  | free
  | busy (request : PortRequest) (timer timeout : Nat)
  | abandoned
  deriving DecidableEq, Repr

/-- The two sides that wait for a tag (R96, R98). -/
inductive PortSide where
  | passThrough
  | release
  deriving DecidableEq, Repr

/-- The memory port (R95 to R103). -/
structure MemoryPort where
  tags : Vector TagState 4 := Vector.replicate 4 .free
  waiting : List PassRequest := []
  settle : Vector Nat 8 := Vector.replicate 8 0
  lastGranted : PortSide := .passThrough
  timeout : Nat := 4096
  deriving DecidableEq, Repr

/-! ## The release engine (R80) -/

inductive EngineState where
  | idle
  | settling
  | draining
  | stopping
  deriving DecidableEq, Repr

inductive ReleaseKind where
  | oneShot
  | repeating
  deriving DecidableEq, Repr

inductive WriteState where
  | none
  | requested
  | issued
  deriving DecidableEq, Repr

inductive StopCause where
  | discard
  | softReset
  deriving DecidableEq, Repr

/-- The release context (R80). The defaults are its values after reset. -/
structure Engine where
  state : EngineState := .idle
  group : Option GroupId := none
  kind : Option ReleaseKind := none
  written : Nat := 0
  failed : Nat := 0
  cursor : Nat := 0
  write : WriteState := .none
  copy : Option Entry := none
  cause : Option StopCause := none
  deriving DecidableEq, Repr

/-! ## The timebase (R107, R108) -/

inductive TimebaseMode where
  /-- INTERNAL -/
  | internal
  /-- EXTERNAL -/
  | external
  deriving DecidableEq, Repr

inductive LockState where
  | none
  | search
  | locked
  | flywheel
  deriving DecidableEq, Repr

/-- The timebase (R107): `lines` is L and `tolerance` is T. -/
structure Timebase where
  frame : Half := 0
  line : Nat := 0
  timer : Nat := 0
  mode : TimebaseMode := .internal
  lock : LockState := .none
  pendingLoad : Option Half := none
  linePeriod : Nat := 1000
  lines : Nat := 1125
  tolerance : Nat := 8
  deriving DecidableEq, Repr

/-! ## Completion records (R149) and the interrupt line -/

inductive RecordKind where
  | released
  | releaseFault
  | discarded
  | deadlineCancelled
  | chainBroken
  | overflow
  | syncLost
  | syncRegained
  | downstreamStuck
  deriving DecidableEq, Repr

/-- The flags of a completion record (R149). -/
structure RecordFlags where
  forced : Bool := false
  missed : Bool := false
  collided : Bool := false
  overflowed : Bool := false
  repeated : Bool := false
  deriving DecidableEq, Repr

/-- R5, R24, R133, R140: the two saturating counts of a group as they are reported with a RELEASED record of it. -/
structure ReportedCounts where
  missed : Nat := 0
  collisions : Nat := 0
  deriving DecidableEq, Repr

/-- The sequence number and the counts that the three kinds of release record carry (R149). The missed-launch count and the
collision count are not among them (R151): `State.reported` holds them (log 27). -/
structure ReleaseReport where
  sequence : Half
  written : Nat
  failed : Nat
  deriving DecidableEq, Repr

/-- A completion record: the seven fields of R149. `report` is present for RELEASED, RELEASE_FAULT and DISCARDED. -/
structure CompletionRecord where
  kind : RecordKind
  group : Option GroupId
  report : Option ReleaseReport
  frame : Half
  line : Nat
  flags : RecordFlags
  lost : Nat
  deriving DecidableEq, Repr

/-- The completion queue (R152). -/
structure CompletionQueue where
  records : List CompletionRecord := []
  lost : Nat := 0
  urgent : Nat := 0
  deriving DecidableEq, Repr

/-- The configuration of IRQ_N (R159). -/
structure IrqConfig where
  master : Bool := true
  threshold : Nat := 1
  urgent : Bool := false
  deriving DecidableEq, Repr

/-! ## The control link (R162, R167) -/

/-- The frame receiver with the bits of the byte that is not yet complete, the result buffer, what SDO carried in the last
frame, whether the part drives SDO now (R168, R190), and whether CS_N has been low since before the part left reset (R163). -/
structure ControlLink where
  selected : Bool := false
  bitCount : Nat := 0
  received : List Byte := []
  partialBits : List Bool := []
  result : List Byte := [0x00]
  sdo : List Bool := []
  sdoDriven : Bool := false
  csHeldLow : Bool := false
  deriving DecidableEq, Repr

/-! ## The sampled inputs (R190) -/

/-- For each of FSYNC and TRIG: the last rise, with at least 2 samples low before it, was not seen as an edge, so that one
that follows it too closely is seen (R113, R135, R190, log 5). -/
structure MissedEdges where
  fsync : Bool := false
  trig : Bool := false
  deriving DecidableEq, Repr

/-! ## The whole part -/

/-- The part. The defaults are its values right after reset. -/
structure State where
  /-- the eight group records, with their lists (R1, R32) -/
  groups : Vector GroupRecord 8 := Vector.replicate 8 {}
  /-- the number of free slots of the staging store (R31) -/
  free : Nat := 1024
  /-- the window table (R57) -/
  windows : Vector Window 16 := Vector.replicate 16 {}
  /-- the ingress queue, oldest first (R52) -/
  ingress : List Ingress := []
  /-- the RELEASING group on which the head waits at the fence (R64) -/
  fencedOn : Option GroupId := none
  /-- the last response returned on the system port (R56) -/
  response : Option SystemResponse := none
  /-- the model's own name for the next accepted transaction -/
  nextId : Nat := 0
  /-- the release context (R80) -/
  engine : Engine := {}
  /-- the memory port (R95) -/
  port : MemoryPort := {}
  /-- the timebase (R107) -/
  timebase : Timebase := {}
  /-- the launch points (R127) -/
  points : Vector LaunchPoint 8 := Vector.replicate 8 {}
  /-- the launch queue, head first (R145) -/
  launchQueue : List GroupId := []
  /-- the last level seen on TRIG (R126) -/
  trigLevel : Bool := false
  /-- the rises of FSYNC and TRIG that have not been seen (R113, R135, R190) -/
  missedEdges : MissedEdges := {}
  /-- the completion queue (R152) -/
  completions : CompletionQueue := {}
  /-- for each RELEASED record of the queue, in their order, the missed-launch count and the collision count that the group
  reports with it (R5, R24, R133, R140); they stand beside the fields of the record (R149, R151, log 27) -/
  reported : List ReportedCounts := []
  /-- the configuration of IRQ_N (R159) -/
  irq : IrqConfig := {}
  /-- IRQ_N is driven low (R158) -/
  irqLow : Bool := false
  /-- the control link (R162, R167) -/
  link : ControlLink := {}
  /-- the part is held in reset (R190) -/
  inReset : Bool := false
  /-- CLK runs (R190) -/
  clkRuns : Bool := true
  /-- the model's own counter of free values used -/
  freeIndex : Nat := 0
  /-- the commands and events that wait, first in first out -/
  pending : List Instr := []
  deriving DecidableEq, Repr

/-- The reasons the part stops with a fault: none. The manual describes no event at which the part stops (log 21). -/
inductive Fault where
  deriving DecidableEq, Repr

/-- The reasons a command has no meaning. -/
inductive Refusal where
  /-- Raised by exec's arm of a row that has no meaning yet. Safe: nothing is claimed of it. -/
  | notModelled (mnemonic : String)
  /-- Raised by ACCEPTANCE for a term that R52 calls no transaction: a start address that is no multiple of 4, or a beat
  count outside 1 to 16. Safe: the manual gives no such command (log 16). -/
  | notATransaction
  /-- Raised by UNKNOWN_CMD when its code does name a command, so that the term is no UNKNOWN_CMD of R165. Safe: such a
  frame is one of the other commands (log 16). -/
  | codeNamesACommand
  deriving DecidableEq, Repr

/-- The part right after reset (R6, R31, R52, R57, R80, R95, R107, R127, R152, R159, R163, R167), out of reset with TRIG
low, CS_N high and CLK running (log 9). -/
def State.reset : State := {}

end Sys2Proof.Machine
end

