-- ==== Sys2Proof/Machine/Flags.lean ====
section
/-!
DEFINITION. The flags and levels the part computes: the flags of a group and of its records (R5, R151), the urgency of a
record (R150), the level of IRQ_N (R158), the abandoned tag count and STUCK (R95, R102).
-/
namespace Sys2Proof.Machine

/-! ## The flags and counts of a group (R5) -/

/-- A count of one byte that stops at 255 (R5). -/
def saturate255 (n : Nat) : Nat := min (n + 1) 255

/-- R5: clear the four flags and set both counts to 0. -/
def GroupRecord.clearFlags (r : GroupRecord) : GroupRecord :=
  { r with overflowed := false, collided := false, forced := false, missed := false, collisionCount := 0, missedCount := 0 }

/-- R24, R140: a missed launch. -/
def GroupRecord.missLaunch (r : GroupRecord) : GroupRecord :=
  { r with missed := true, missedCount := saturate255 r.missedCount }

/-- R73: a collision. -/
def GroupRecord.collide (r : GroupRecord) : GroupRecord :=
  { r with collided := true, collisionCount := saturate255 r.collisionCount }

/-- R71: an overflow sets the flag and the overflow-reported mark. -/
def GroupRecord.overflow (r : GroupRecord) : GroupRecord :=
  { r with overflowed := true, overflowReported := true }

/-- R151: the flags of a RELEASED or RELEASE_FAULT record of the group. REPEAT is set when repeats remaining is above 0. -/
def GroupRecord.recordFlags (r : GroupRecord) : RecordFlags :=
  { forced := r.forced, missed := r.missed, collided := r.collided, overflowed := r.overflowed,
    repeated := decide (0 < r.repeatsRemaining) }

/-! ## The interrupt line -/

/-- R150: the urgent kinds. -/
def RecordKind.isUrgent : RecordKind → Bool
  | .released => false
  | .releaseFault => true
  | .discarded => false
  | .deadlineCancelled => true
  | .chainBroken => true
  | .overflow => true
  | .syncLost => true
  | .syncRegained => false
  | .downstreamStuck => true

/-- R158: IRQ_N is driven low. -/
def irqLevel (irq : IrqConfig) (q : CompletionQueue) : Bool :=
  irq.master && (decide (irq.threshold ≤ q.records.length) || (irq.urgent && decide (0 < q.urgent)))

/-! ## The memory port -/

/-- The four tags in order. -/
def allTags : List TagId := [0, 1, 2, 3]

/-- R95: the tag is ABANDONED. -/
def TagState.isAbandoned : TagState → Bool
  | .abandoned => true
  | _ => false

/-- R95: the tag is FREE. -/
def TagState.isFree : TagState → Bool
  | .free => true
  | _ => false

/-- R95: the abandoned tag count. -/
def MemoryPort.abandonedCount (p : MemoryPort) : Nat := allTags.countP fun t => p.tags[t].isAbandoned

/-- R102: the port is STUCK while all four tags are ABANDONED. -/
def MemoryPort.isStuck (p : MemoryPort) : Bool := p.abandonedCount == 4

end Sys2Proof.Machine
end

