-- ==== Sys2Proof/Decode.lean ====
section
/-!
DEFINITION. Which command a frame carries. The opcode table gives no row any bits, so a table word spells no command; the
command codes of the control link stand in R183.
-/
namespace Sys2Proof

/-- The opcode table gives its rows no bits: no word of the table spells a command (log 20). -/
def decodeTableWord (_nbits _w : Nat) : Option Instr := none

/-- R183: the frame length of each command code, and `none` for a code that names no command. -/
def frameLength (code : Byte) : Option Nat :=
  match code.toNat with
  | 0x00 => some 2    -- NOP
  | 0x01 => some 2    -- BRIDGE_STATUS
  | 0x0A => some 2    -- SOFT_RESET
  | 0x10 => some 11   -- GROUP_CONFIG
  | 0x11 => some 2    -- GROUP_OPEN
  | 0x12 => some 7    -- GROUP_CLOSE
  | 0x13 => some 4    -- GROUP_ARM
  | 0x14 => some 2    -- GROUP_DISARM
  | 0x15 => some 2    -- GROUP_LAUNCH
  | 0x16 => some 2    -- GROUP_DISCARD
  | 0x17 => some 2    -- GROUP_STATUS
  | 0x18 => some 4    -- ENTRY_READ
  | 0x20 => some 13   -- WINDOW_SET
  | 0x21 => some 2    -- WINDOW_CLEAR
  | 0x22 => some 2    -- WINDOW_READ
  | 0x28 => some 10   -- POINT_SET
  | 0x29 => some 2    -- POINT_READ
  | 0x30 => some 9    -- TIMEBASE_CONFIG
  | 0x31 => some 2    -- TIMEBASE_READ
  | 0x32 => some 4    -- TIMEBASE_LOAD
  | 0x38 => some 4    -- PORT_CONFIG
  | 0x40 => some 2    -- QUEUE_POP
  | 0x41 => some 5    -- IRQ_CONFIG
  | _ => none

/-- R165: the code names a command of the catalogue. -/
def codeNamesCommand (code : Byte) : Bool := (frameLength code).isSome

/-- R164, R183: the command of a frame whose byte 0 is `code`. A code that the table does not list is UNKNOWN_CMD. -/
def commandOfCode (code : Byte) (f : Frame) : Instr :=
  match code.toNat with
  | 0x00 => .nop f
  | 0x01 => .bridgeStatus f
  | 0x0A => .softReset f
  | 0x10 => .groupConfig f
  | 0x11 => .groupOpen f
  | 0x12 => .groupClose f
  | 0x13 => .groupArm f
  | 0x14 => .groupDisarm f
  | 0x15 => .groupLaunch f
  | 0x16 => .groupDiscard f
  | 0x17 => .groupStatus f
  | 0x18 => .entryRead f
  | 0x20 => .windowSet f
  | 0x21 => .windowClear f
  | 0x22 => .windowRead f
  | 0x28 => .pointSet f
  | 0x29 => .pointRead f
  | 0x30 => .timebaseConfig f
  | 0x31 => .timebaseRead f
  | 0x32 => .timebaseLoad f
  | 0x38 => .portConfig f
  | 0x40 => .queuePop f
  | 0x41 => .irqConfig f
  | _ => .unknownCmd code f

/-- R164: the command that a frame carries when CS_N rises, from the complete bytes received and the bits after them. -/
def commandOfFrame (bytes : List Byte) (extraBits : Fin 8) : Instr :=
  match bytes with
  | [] => .frameWithoutCompleteByte extraBits
  | code :: rest => commandOfCode code ⟨rest, extraBits⟩

/-- R183: the frame that carries a control-link command, as its complete bytes and the bits after them; `none` for an
event that is no frame. -/
def frameOfCommand : Instr → Option (List Byte × Fin 8)
  | .nop f => some (0x00 :: f.bytes, f.extraBits)
  | .bridgeStatus f => some (0x01 :: f.bytes, f.extraBits)
  | .softReset f => some (0x0A :: f.bytes, f.extraBits)
  | .groupConfig f => some (0x10 :: f.bytes, f.extraBits)
  | .groupOpen f => some (0x11 :: f.bytes, f.extraBits)
  | .groupClose f => some (0x12 :: f.bytes, f.extraBits)
  | .groupArm f => some (0x13 :: f.bytes, f.extraBits)
  | .groupDisarm f => some (0x14 :: f.bytes, f.extraBits)
  | .groupLaunch f => some (0x15 :: f.bytes, f.extraBits)
  | .groupDiscard f => some (0x16 :: f.bytes, f.extraBits)
  | .groupStatus f => some (0x17 :: f.bytes, f.extraBits)
  | .entryRead f => some (0x18 :: f.bytes, f.extraBits)
  | .windowSet f => some (0x20 :: f.bytes, f.extraBits)
  | .windowClear f => some (0x21 :: f.bytes, f.extraBits)
  | .windowRead f => some (0x22 :: f.bytes, f.extraBits)
  | .pointSet f => some (0x28 :: f.bytes, f.extraBits)
  | .pointRead f => some (0x29 :: f.bytes, f.extraBits)
  | .timebaseConfig f => some (0x30 :: f.bytes, f.extraBits)
  | .timebaseRead f => some (0x31 :: f.bytes, f.extraBits)
  | .timebaseLoad f => some (0x32 :: f.bytes, f.extraBits)
  | .portConfig f => some (0x38 :: f.bytes, f.extraBits)
  | .queuePop f => some (0x40 :: f.bytes, f.extraBits)
  | .irqConfig f => some (0x41 :: f.bytes, f.extraBits)
  | .unknownCmd code f => some (code :: f.bytes, f.extraBits)
  | .frameWithoutCompleteByte bits => some ([], bits)
  | .powerOnReset => none
  | .rstN _ => none
  | .acceptance _ => none
  | .judgement => none
  | .transactionResponse => none
  | .grant => none
  | .response _ _ _ => none
  | .responseTimeout _ => none
  | .taking => none
  | .settlingEnd => none
  | .releaseCompletion => none
  | .lineTimerExpiry => none
  | .fsyncEdge _ _ => none
  | .trigEdge _ _ => none
  | .deadlineExpiry _ => none
  | .resetRelease _ _ => none

end Sys2Proof
end

