-- ==== Sys2Proof/WellFormed.lean ====
section
/-!
DEFINITION. Which terms of the syntax are commands of the part.
-/
namespace Sys2Proof

/-- R52: the number of beats of a transaction. -/
def Transaction.beatCount (t : Transaction) : Nat :=
  match t.transfer with
  | .read n => n
  | .write beats => beats.length

/-- R52: the start address is a multiple of 4 and the beat count is 1 to 16. -/
def Transaction.wellFormed (t : Transaction) : Bool :=
  t.start.toNat % 4 == 0 && decide (1 ≤ t.beatCount) && decide (t.beatCount ≤ 16)

/-- The term is a command or event of the manual. -/
def Instr.wellFormed : Instr → Bool
  | .nop _ | .bridgeStatus _ | .softReset _ | .groupConfig _ | .groupOpen _ | .groupClose _ | .groupArm _
  | .groupDisarm _ | .groupLaunch _ | .groupDiscard _ | .groupStatus _ | .entryRead _ | .windowSet _ | .windowClear _
  | .windowRead _ | .pointSet _ | .pointRead _ | .timebaseConfig _ | .timebaseRead _ | .timebaseLoad _ | .portConfig _
  | .queuePop _ | .irqConfig _ => true
  | .unknownCmd code _ => !codeNamesCommand code
  | .frameWithoutCompleteByte _ => true
  | .powerOnReset => true
  | .rstN _ => true
  | .acceptance t => t.wellFormed
  | .judgement => true
  | .transactionResponse => true
  | .grant => true
  | .response _ _ _ => true
  | .responseTimeout _ => true
  | .taking => true
  | .settlingEnd => true
  | .releaseCompletion => true
  | .lineTimerExpiry => true
  | .fsyncEdge _ _ => true
  | .trigEdge _ _ => true
  | .deadlineExpiry _ => true
  | .resetRelease _ _ => true

end Sys2Proof
end

