-- ==== Sys2Proof/Machine/Operands.lean ====
section
/-!
DEFINITION. The forms of the control link: the fields of a frame, the codes of the named values and the bytes of the
results (R182 to R189). Bytes are counted as the manual counts them, the command code being byte 0.
-/
namespace Sys2Proof

/-! ## Fields of a frame (R182) -/

/-- Byte `k` of the frame, for `k` from 1; the command code is byte 0. -/
def Frame.byte (f : Frame) (k : Nat) : Byte := f.bytes.getD (k - 1) 0

/-- The 16-bit field at bytes `k` to `k + 1`, most significant byte first. -/
def Frame.half (f : Frame) (k : Nat) : Half := f.byte k ++ f.byte (k + 1)

/-- The 32-bit field at bytes `k` to `k + 3`, most significant byte first. -/
def Frame.word (f : Frame) (k : Nat) : Word := f.byte k ++ f.byte (k + 1) ++ f.byte (k + 2) ++ f.byte (k + 3)

/-- R165: the number of complete bytes of the frame, its code counted. -/
def Frame.length (f : Frame) : Nat := f.bytes.length + 1

/-- R162: the bits of a byte as they travel, most significant bit first. -/
def bitsOfByte (b : Byte) : List Bool := (List.range 8).map fun i => b.getLsbD (7 - i)

/-- R162: the byte that eight bits complete, the first taken being its most significant. -/
def byteOfBits (bits : List Bool) : Byte := bits.foldl (fun b bit => (b <<< 1) ||| (if bit then 1 else 0)) 0

/-- R162: the levels of SDI at the SCK edges of the frame. Those of the bits after the last complete byte are discarded
unread (R164), and stand here as low. -/
def Frame.bits (code : Byte) (f : Frame) : List Bool :=
  (code :: f.bytes).flatMap bitsOfByte ++ List.replicate f.extraBits.val false

/-- R162: the number of SCK rising edges of the frame. -/
def Frame.bitCount (f : Frame) : Nat := 8 * f.length + f.extraBits.val

/-- The index byte names one of `n` things: the index check of R166. -/
def Frame.index? (f : Frame) (n : Nat) : Option (Fin n) :=
  if h : (f.byte 1).toNat < n then some ⟨(f.byte 1).toNat, h⟩ else none

/-- A byte that names one of `n` things. -/
def Frame.number? (f : Frame) (k n : Nat) : Option (Fin n) :=
  if h : (f.byte k).toNat < n then some ⟨(f.byte k).toNat, h⟩ else none

/-- R182: a byte coded 0x00 for no, off or absent and 0x01 for yes, on or present. -/
def Frame.flag? (f : Frame) (k : Nat) : Option Bool :=
  match (f.byte k).toNat with
  | 0x00 => some false
  | 0x01 => some true
  | _ => none

namespace Machine

/-! ## Status codes (R170, R184) -/

/-- R170: the statuses. -/
inductive Status where
  | ok
  | wrongState
  | badIndex
  | badArg
  | badChain
  | badPoint
  | checkMismatch
  | busy
  | empty
  | frameShort
  | unknownCmd
  deriving DecidableEq, Repr

/-- R184: the status byte. -/
def Status.code : Status → Byte
  | .ok => 0x00
  | .wrongState => 0x01
  | .badIndex => 0x02
  | .badArg => 0x03
  | .badChain => 0x04
  | .badPoint => 0x05
  | .checkMismatch => 0x06
  | .busy => 0x07
  | .empty => 0x08
  | .frameShort => 0x09
  | .unknownCmd => 0x0A

/-! ## Codes of the named values (R185 to R189) -/

def StagingMode.code : StagingMode → Byte
  | .coalesce => 0x00
  | .ordered => 0x01

def stagingModeOf (b : Byte) : Option StagingMode :=
  match b.toNat with
  | 0x00 => some .coalesce
  | 0x01 => some .ordered
  | _ => none

def OverflowPolicy.code : OverflowPolicy → Byte
  | .refuse => 0x00
  | .through => 0x01

def overflowPolicyOf (b : Byte) : Option OverflowPolicy :=
  match b.toNat with
  | 0x00 => some .refuse
  | 0x01 => some .through
  | _ => none

/-- R185: the requester identifier, or 0xFF for ANY. -/
def filterCode : Option (Fin 16) → Byte
  | none => 0xFF
  | some r => BitVec.ofNat 8 r.val

/-- R185: 0x00 to 0x0F is a requester identifier and 0xFF is ANY; 0x10 to 0xFE names nothing. -/
def filterOf (b : Byte) : Option (Option (Fin 16)) :=
  if h : b.toNat < 16 then some (some ⟨b.toNat, h⟩) else if b = 0xFF then some none else none

def ErrorPolicy.code : ErrorPolicy → Byte
  | .abort => 0x00
  | .carryOn => 0x01

def errorPolicyOf (b : Byte) : Option ErrorPolicy :=
  match b.toNat with
  | 0x00 => some .abort
  | 0x01 => some .carryOn
  | _ => none

def DeadlineAction.code : DeadlineAction → Byte
  | .cancel => 0x00
  | .force => 0x01

def deadlineActionOf (b : Byte) : Option DeadlineAction :=
  match b.toNat with
  | 0x00 => some .cancel
  | 0x01 => some .force
  | _ => none

def MissPolicy.code : MissPolicy → Byte
  | .pass => 0x00
  | .refuse => 0x01

def missPolicyOf (b : Byte) : Option MissPolicy :=
  match b.toNat with
  | 0x00 => some .pass
  | 0x01 => some .refuse
  | _ => none

def ReadPolicy.code : ReadPolicy → Byte
  | .pass => 0x00
  | .merge => 0x01

def readPolicyOf (b : Byte) : Option ReadPolicy :=
  match b.toNat with
  | 0x00 => some .pass
  | 0x01 => some .merge
  | _ => none

def TimebaseMode.code : TimebaseMode → Byte
  | .internal => 0x00
  | .external => 0x01

def timebaseModeOf (b : Byte) : Option TimebaseMode :=
  match b.toNat with
  | 0x00 => some .internal
  | 0x01 => some .external
  | _ => none

/-- R187: byte 10 of GROUP_STATUS. -/
def GroupState.code : GroupState → Byte
  | .idle => 0x00
  | .opened => 0x01
  | .closed => 0x02
  | .armed => 0x03
  | .pending => 0x04
  | .releasing => 0x05
  | .faulted => 0x06

/-- R189: byte 11 of BRIDGE_STATUS. -/
def EngineState.code : EngineState → Byte
  | .idle => 0x00
  | .settling => 0x01
  | .draining => 0x02
  | .stopping => 0x03

/-- R188: byte 6 of TIMEBASE_READ. -/
def LockState.code : LockState → Byte
  | .none => 0x00
  | .search => 0x01
  | .locked => 0x02
  | .flywheel => 0x03

/-- R189: the kind byte of a completion record. -/
def RecordKind.code : RecordKind → Byte
  | .released => 0x01
  | .releaseFault => 0x02
  | .discarded => 0x03
  | .deadlineCancelled => 0x04
  | .chainBroken => 0x05
  | .overflow => 0x06
  | .syncLost => 0x07
  | .syncRegained => 0x08
  | .downstreamStuck => 0x09

/-- R185: byte 2 of GROUP_ARM, and bytes 14 and 15 of GROUP_STATUS with it: the code and the argument. -/
def LaunchCondition.code : LaunchCondition → Byte × Byte
  | .immediate => (0x00, 0x00)
  | .nextFrame => (0x01, 0x00)
  | .point p => (0x02, BitVec.ofNat 8 p.val)
  | .trig => (0x03, 0x00)
  | .soft => (0x04, 0x00)
  | .after h => (0x05, BitVec.ofNat 8 h.val)

/-- R185: the launch condition of a GROUP_ARM frame. Byte 3 is looked at for POINT and AFTER alone. -/
def launchConditionOf (f : Frame) : Option LaunchCondition :=
  match (f.byte 2).toNat with
  | 0x00 => some .immediate
  | 0x01 => some .nextFrame
  | 0x02 => (f.number? 3 8).map .point
  | 0x03 => some .trig
  | 0x04 => some .soft
  | 0x05 => (f.number? 3 8).map .after
  | _ => none

/-- R185: the configuration that a GROUP_CONFIG frame carries, when every field lies in its range (R2). -/
def groupConfigOf (f : Frame) : Option GroupConfig :=
  match stagingModeOf (f.byte 2), overflowPolicyOf (f.byte 5), filterOf (f.byte 6), errorPolicyOf (f.byte 7),
      deadlineActionOf (f.byte 10) with
  | some mode, some overflow, some filter, some errorPolicy, some deadlineAction =>
    if 1 ≤ (f.half 3).toNat ∧ (f.half 3).toNat ≤ 1024 then
      some { mode, cap := (f.half 3).toNat, overflow, filter, errorPolicy, repeats := (f.byte 8).toNat,
             deadline := (f.byte 9).toNat, deadlineAction }
    else none
  | _, _, _, _, _ => none

/-- R186, R59: the record that a WINDOW_SET frame carries, when every field lies in its range. -/
def windowOf (f : Frame) : Option Window :=
  match f.number? 10 8, missPolicyOf (f.byte 11), readPolicyOf (f.byte 12) with
  | some group, some miss, some read =>
    if (f.word 2).toNat % 64 = 0 ∧ (f.word 6).toNat % 64 = 0 ∧ (f.word 2).toNat ≤ (f.word 6).toNat then
      some { valid := true, base := f.word 2, limit := f.word 6, group, miss, read }
    else none
  | _, _, _ => none

/-- R186, R129: the record that a POINT_SET frame carries, when every field lies in its range. -/
def launchPointOf (f : Frame) : Option LaunchPoint :=
  match f.flag? 2, f.flag? 7 with
  | some enabled, some lineCheck =>
    if (f.half 8).toNat ≤ 4095 then
      some { enabled, frameValue := f.half 3, frameMask := f.half 5, lineCheck, lineValue := (f.half 8).toNat }
    else none
  | _, _ => none

/-- R186, R159: the configuration that an IRQ_CONFIG frame carries, when every field lies in its range. -/
def irqConfigOf (f : Frame) : Option IrqConfig :=
  match f.flag? 2, f.flag? 4 with
  | some master, some urgent =>
    if 1 ≤ (f.byte 3).toNat ∧ (f.byte 3).toNat ≤ 32 then
      some { master, threshold := (f.byte 3).toNat, urgent }
    else none
  | _, _ => none

/-- R186, R120: the values that a TIMEBASE_CONFIG frame carries, when every one lies in its range; the lock state is the
one that R120 sets for the mode carried. -/
def timebaseOf (f : Frame) (tb : Timebase) : Option Timebase :=
  match timebaseModeOf (f.byte 2) with
  | some mode =>
    if 16 ≤ (f.half 3).toNat ∧ 2 ≤ (f.half 5).toNat ∧ (f.half 5).toNat ≤ 4096 ∧ (f.half 7).toNat ≤ 255 then
      some { tb with
        mode, linePeriod := (f.half 3).toNat, lines := (f.half 5).toNat, tolerance := (f.half 7).toNat
        lock := match mode with
          | .internal => .none
          | .external => .search }
    else none
  | none => none

/-! ## Bytes of a result (R182) -/

/-- One byte of a count. -/
def byteOf (n : Nat) : Byte := BitVec.ofNat 8 n

/-- R182: a flag, or a presence byte. -/
def flagByte (b : Bool) : Byte := if b then 0x01 else 0x00

/-- R182: a 16-bit field, most significant byte first. -/
def halfBytes (h : Half) : List Byte := [h.extractLsb' 8 8, h.extractLsb' 0 8]

/-- R182: a count of two bytes, most significant byte first. -/
def countBytes (n : Nat) : List Byte := halfBytes (BitVec.ofNat 16 n)

/-- R182: a 32-bit field, most significant byte first. -/
def wordBytes (w : Word) : List Byte :=
  [w.extractLsb' 24 8, w.extractLsb' 16 8, w.extractLsb' 8 8, w.extractLsb' 0 8]

/-- Four flags in the low bits of a byte, bit 0 first, and a fifth (R187, R189). -/
def flagBits (b0 b1 b2 b3 b4 : Bool) : Byte :=
  byteOf (b0.toNat + 2 * b1.toNat + 4 * b2.toNat + 8 * b3.toNat + 16 * b4.toNat)

/-- R185: bytes 2 to 10 of GROUP_CONFIG. -/
def GroupConfig.bytes (c : GroupConfig) : List Byte :=
  [c.mode.code] ++ countBytes c.cap ++
    [c.overflow.code, filterCode c.filter, c.errorPolicy.code, byteOf c.repeats, byteOf c.deadline,
      c.deadlineAction.code]

/-- R187: the launch condition, with its presence byte. -/
def conditionBytes : Option LaunchCondition → List Byte
  | none => [0x00, 0x00, 0x00]
  | some c => [0x01, c.code.1, c.code.2]

/-- R187: the deadline remaining, with its presence byte. -/
def deadlineBytes : Option Nat → List Byte
  | none => [0x00, 0x00]
  | some n => [0x01, byteOf n]

/-- R187: the check code, with its presence byte. -/
def checkCodeBytes : Option Word → List Byte
  | none => 0x00 :: wordBytes 0
  | some c => 0x01 :: wordBytes c

/-- R187: the result bytes of GROUP_STATUS. -/
def GroupRecord.bytes (r : GroupRecord) : List Byte :=
  r.config.bytes ++ [r.state.code] ++ countBytes r.entries.length ++ conditionBytes r.condition ++
    deadlineBytes r.deadlineRemaining ++ [byteOf r.repeatsRemaining] ++ halfBytes r.sequence ++
    checkCodeBytes r.checkCode ++
    [flagBits r.forced r.missed r.collided r.overflowed false, byteOf r.collisionCount, byteOf r.missedCount] ++
    countBytes r.lastWritten ++ countBytes r.lastFailed

/-- R188: the result bytes of ENTRY_READ. -/
def Entry.bytes (e : Entry) : List Byte :=
  wordBytes e.address ++ [e.mask.setWidth 8] ++ wordBytes e.data

/-- R188: the result bytes of WINDOW_READ. -/
def Window.bytes (w : Window) : List Byte :=
  [flagByte w.valid] ++ wordBytes w.base ++ wordBytes w.limit ++ [byteOf w.group.val, w.miss.code, w.read.code]

/-- R188: the result bytes of POINT_READ. -/
def LaunchPoint.bytes (p : LaunchPoint) : List Byte :=
  [flagByte p.enabled] ++ halfBytes p.frameValue ++ halfBytes p.frameMask ++ [flagByte p.lineCheck] ++
    countBytes p.lineValue

/-- R188: the pending frame load, with its presence byte. -/
def loadBytes : Option Half → List Byte
  | none => 0x00 :: halfBytes 0
  | some v => 0x01 :: halfBytes v

/-- R188: the result bytes of TIMEBASE_READ. -/
def Timebase.bytes (t : Timebase) : List Byte :=
  halfBytes t.frame ++ countBytes t.line ++ [t.mode.code, t.lock.code] ++ loadBytes t.pendingLoad ++
    countBytes t.linePeriod ++ countBytes t.lines ++ countBytes t.tolerance

/-- R189: the group of a completion record, with its presence byte. -/
def recordGroupBytes : Option GroupId → List Byte
  | none => [0x00, 0x00]
  | some g => [0x01, byteOf g.val]

/-- R189: the result bytes of QUEUE_POP. They have no place for the missed-launch count and the collision count that a record
may report (log 27). -/
def CompletionRecord.bytes (r : CompletionRecord) : List Byte :=
  [r.kind.code] ++ recordGroupBytes r.group ++
    (match r.report with
      | none => 0x00 :: halfBytes 0
      | some p => 0x01 :: halfBytes p.sequence) ++
    halfBytes r.frame ++ countBytes r.line ++
    (match r.report with
      | none => 0x00 :: (countBytes 0 ++ countBytes 0)
      | some p => 0x01 :: (countBytes p.written ++ countBytes p.failed)) ++
    [flagBits r.flags.forced r.flags.missed r.flags.collided r.flags.overflowed r.flags.repeated, byteOf r.lost]

/-- R168: the first `n` bits shifted out on SDO from the result buffer `buffer`: its bytes most significant bit first, and
0x00 beyond its length. -/
def shiftOut (buffer : List Byte) (n : Nat) : List Bool :=
  (List.range n).map fun i => (buffer.getD (i / 8) 0).getLsbD (7 - i % 8)

end Machine
end Sys2Proof
end

