-- ==== Sys2Proof/Machine/Ops.lean ====
section
/-!
DEFINITION. The operations shared by the commands: access to the records, the completion queue, the launch queue, the
breaking of chains, the notices of the launch unit, the control link's frame and result, and the resets.
-/
namespace Sys2Proof.Machine

/-! ## Access to the records -/

/-- The eight groups in ascending order. -/
def allGroups : List GroupId := [0, 1, 2, 3, 4, 5, 6, 7]

/-- The record of a group. -/
def State.group (s : State) (g : GroupId) : GroupRecord := s.groups[g]

/-- Replace the record of a group. -/
def State.setGroup (s : State) (g : GroupId) (r : GroupRecord) : State := { s with groups := s.groups.set g.val r }

/-- Change the record of a group. -/
def State.modifyGroup (s : State) (g : GroupId) (change : GroupRecord → GroupRecord) : State :=
  s.setGroup g (change (s.group g))

/-- The record of a window. -/
def State.window (s : State) (w : Fin 16) : Window := s.windows[w]

/-- Replace the record of a window. -/
def State.setWindow (s : State) (w : Fin 16) (r : Window) : State := { s with windows := s.windows.set w.val r }

/-- The record of a launch point. -/
def State.point (s : State) (p : Fin 8) : LaunchPoint := s.points[p]

/-- Replace the record of a launch point. -/
def State.setPoint (s : State) (p : Fin 8) (r : LaunchPoint) : State := { s with points := s.points.set p.val r }

/-- Replace the release context. -/
def State.setEngine (s : State) (e : Engine) : State := { s with engine := e }

/-- Replace the memory port. -/
def State.setPort (s : State) (p : MemoryPort) : State := { s with port := p }

/-- Replace the timebase. -/
def State.setTimebase (s : State) (t : Timebase) : State := { s with timebase := t }

/-- Replace the launch queue. -/
def State.setLaunchQueue (s : State) (q : List GroupId) : State := { s with launchQueue := q }

/-- Replace the ingress queue. -/
def State.setIngress (s : State) (q : List Ingress) : State := { s with ingress := q }

/-- Replace the group on which the head waits at the fence. -/
def State.setFence (s : State) (g : Option GroupId) : State := { s with fencedOn := g }

/-- Replace the number of free slots. -/
def State.setFree (s : State) (n : Nat) : State := { s with free := n }

/-- Replace the control link. -/
def State.setLink (s : State) (l : ControlLink) : State := { s with link := l }

/-- Replace the completion queue and the interrupt configuration, and set IRQ_N anew (R158). -/
def State.setCompletions (s : State) (irq : IrqConfig) (q : CompletionQueue) : State :=
  { s with irq := irq, completions := q, irqLow := irqLevel irq q }

/-- Replace the counts reported with the RELEASED records of the queue (log 27). -/
def State.setReported (s : State) (counts : List ReportedCounts) : State := { s with reported := counts }

/-- R190: CLK runs, or it does not. -/
def State.setClk (s : State) (runs : Bool) : State := { s with clkRuns := runs }

/-- Count one use of a free value. -/
def State.useFree (s : State) : State := { s with freeIndex := s.freeIndex + 1 }

/-! ## Completion queue (R149 to R155) -/

/-- R153: the queue after the offer of a record: stored with the lost counter, or dropped and counted. -/
def CompletionQueue.offer (q : CompletionQueue) (r : CompletionRecord) : CompletionQueue :=
  if q.records.length < 32 then
    { records := q.records ++ [{ r with lost := q.lost }], lost := 0
      urgent := q.urgent + (if r.kind.isUrgent then 1 else 0) }
  else { q with lost := saturate255 q.lost }

/-- R125, R153: offer a record stamped with the frame and line of the timebase. -/
def State.offer (s : State) (kind : RecordKind) (group : Option GroupId) (report : Option ReleaseReport)
    (flags : RecordFlags) : State :=
  s.setCompletions s.irq
    (s.completions.offer { kind, group, report, frame := s.timebase.frame, line := s.timebase.line, flags, lost := 0 })

/-- Offer a record with all flags clear and no release report (R151). -/
def State.offerPlain (s : State) (kind : RecordKind) (group : Option GroupId) : State := s.offer kind group none {}

/-! ## The group record (R8, R9) and the launch queue (R146, R147) -/

/-- R8: the effect of every transition into IDLE on the record. -/
def GroupRecord.toIdle (r : GroupRecord) : GroupRecord :=
  { r with state := .idle, entries := [], condition := none, deadlineRemaining := none, repeatsRemaining := 0,
           checkCode := none }

/-- R8, R45: return a group to IDLE with its remaining entries freed to the pool. -/
def State.emptyGroup (s : State) (g : GroupId) : State :=
  (s.setFree (s.free + (s.group g).entries.length)).modifyGroup g GroupRecord.toIdle

/-- R9, R18: leave ARMED or PENDING for CLOSED with the contents kept. -/
def GroupRecord.toClosed (r : GroupRecord) : GroupRecord :=
  { r with state := .closed, condition := none, deadlineRemaining := none, repeatsRemaining := 0 }

/-- R146: append a group to the launch queue. -/
def State.appendLaunch (s : State) (g : GroupId) : State := s.setLaunchQueue (s.launchQueue ++ [g])

/-- R147: remove a group from whatever place it holds in the launch queue. -/
def State.removeLaunch (s : State) (g : GroupId) : State := s.setLaunchQueue (s.launchQueue.filter fun k => k != g)

/-- R141: the deadline remaining at an entry to ARMED. -/
def GroupConfig.loadedDeadline (c : GroupConfig) : Option Nat := if c.deadline = 0 then none else some c.deadline

/-- R24, R19, R25: an ARMED group becomes PENDING. -/
def GroupRecord.toPending (r : GroupRecord) : GroupRecord := { r with state := .pending, deadlineRemaining := none }

/-- Put a group into PENDING and append it to the launch queue. -/
def State.makePending (s : State) (g : GroupId) : State := (s.modifyGroup g GroupRecord.toPending).appendLaunch g

/-- R9: group `k` waits on `g` through a chain of ARMED successors of at most `fuel` links. Seven links reach every group. -/
def State.waitsOn (s : State) (g : GroupId) : Nat → GroupId → Bool
  | 0, _ => false
  | fuel + 1, k =>
    (s.group k).state == .armed &&
      match (s.group k).condition with
      | some (.after h) => h == g || s.waitsOn g fuel h
      | _ => false

/-- R9: the groups that are broken when `g` leaves its armed states other than by completion, in ascending order. R9 orders
the records that one group's leaving causes; that those of a transitive break all stand in one ascending order, a record that
a broken successor's own leaving causes too, is a DESIGN CHOICE (log 31). -/
def State.brokenBy (s : State) (g : GroupId) : List GroupId := allGroups.filter fun k => k != g && s.waitsOn g 8 k

/-- R9: break one successor: it goes to CLOSED and a CHAIN_BROKEN record naming it is queued. -/
def State.breakOne (s : State) (k : GroupId) : State :=
  (s.modifyGroup k GroupRecord.toClosed).offerPlain .chainBroken (some k)

/-- R9: break the successors of `g`, transitively, in the order of `State.brokenBy` (DESIGN CHOICE, log 31). -/
def State.breakSuccessors (s : State) (g : GroupId) : State := (s.brokenBy g).foldl State.breakOne s

/-! ## Notices of the launch unit (R24, R25) -/

/-- R24: a firing notice for `g`. -/
def State.firingNotice (s : State) (g : GroupId) : State :=
  match (s.group g).state with
  | .armed => s.makePending g
  | .pending => s.modifyGroup g GroupRecord.missLaunch
  | .releasing => s.modifyGroup g GroupRecord.missLaunch
  | .idle => s
  | .opened => s
  | .closed => s
  | .faulted => s

/-- R24, R137, R139: firing notices for several groups, in the order given. -/
def State.fireGroups (s : State) (gs : List GroupId) : State := gs.foldl State.firingNotice s

/-- R25: the deadline of `g` has been brought to 0 in the wait in which `g` stands. -/
def GroupRecord.expired (r : GroupRecord) : Bool := r.state == .armed && r.deadlineRemaining == some 0

/-- R25: an expiry notice for `g`. It acts when `g` is ARMED in the same wait in which a mark brought its deadline to 0:
every later entry to ARMED loads the deadline anew, so a deadline of 0 is that wait's own (log 8). -/
def State.expiryNotice (s : State) (g : GroupId) : State :=
  if (s.group g).expired then
    match (s.group g).config.deadlineAction with
    | .force => (s.modifyGroup g fun r => { r with forced := true }).makePending g
    | .cancel => ((s.offerPlain .deadlineCancelled (some g)).emptyGroup g).breakSuccessors g
  else s

/-! ## The control link (R162 to R168) -/

/-- R167: put a result into the result buffer. -/
def State.answer (s : State) (result : List Byte) : State := s.setLink { s.link with result := result }

/-- R162, R168, R190: a fall of CS_N with the receiver not selected begins a frame, and SDO is driven. -/
def ControlLink.select (l : ControlLink) : ControlLink :=
  if l.selected then l
  else { l with selected := true, bitCount := 0, received := [], partialBits := [], sdo := [], sdoDriven := true }

/-- R162: the receiver keeps every complete byte up to the number the command needs, and no byte beyond it. Of a frame with
an unknown code it keeps the code (log 10). -/
def keepByte (received : List Byte) (b : Byte) : List Byte :=
  match received with
  | [] => [b]
  | code :: rest =>
    if (code :: rest).length < (frameLength code).getD 1 then (code :: rest) ++ [b] else code :: rest

/-- R168: the level on SDO: the bit of the result buffer that the bit count points at, and 0 beyond the buffer. It is that
of the first bit after the fall of CS_N, and the next one after each falling edge of SCK. -/
def ControlLink.sdoLevel (l : ControlLink) : Bool := (l.result.getD (l.bitCount / 8) 0).getLsbD (7 - l.bitCount % 8)

/-- R162, R168: a rising edge of SCK with SDI at the given level. While selected the bit is shifted in, each eighth edge
completes one byte, and the host takes the bit on SDO. -/
def ControlLink.sckRise (l : ControlLink) (sdi : Bool) : ControlLink :=
  if !l.selected then l
  else if (l.partialBits ++ [sdi]).length = 8 then
    { l with bitCount := l.bitCount + 1, received := keepByte l.received (byteOfBits (l.partialBits ++ [sdi]))
             partialBits := [], sdo := l.sdo ++ [l.sdoLevel] }
  else
    { l with bitCount := l.bitCount + 1, partialBits := l.partialBits ++ [sdi], sdo := l.sdo ++ [l.sdoLevel] }

/-- R162, R164, R168: a rise of CS_N ends the frame: the receiver is not selected, the bits that complete no byte are
discarded, and SDO is driven no more. -/
def ControlLink.deselect (l : ControlLink) : ControlLink :=
  { l with selected := false, partialBits := [], sdoDriven := false }

/-- R162, R164, R168: the control link after a frame with the given bits on SDI, from the fall of CS_N to its rise and before
the command is taken. -/
def ControlLink.clockFrame (l : ControlLink) (bits : List Bool) : ControlLink :=
  (bits.foldl ControlLink.sckRise l.select).deselect

/-- R162: the part after a frame with the given bits on SDI, before its command is taken. -/
def State.clockFrame (s : State) (bits : List Bool) : State := s.setLink (s.link.clockFrame bits)

/-- R163, R168: the rise of a CS_N that was low when the part left reset: it ends no frame, and SDO is driven no more. -/
def State.endHeldFrame (s : State) : State := s.setLink { s.link with csHeldLow := false, sdoDriven := false }

/-- R163, R190: the part takes events: it is out of reset, and CLK runs. -/
def State.takesEvents (s : State) : Bool := !s.inReset && s.clkRuns

/-- The state after a frame with at least one complete byte has been received and before its command is taken. -/
def State.receive (s : State) (code : Byte) (f : Frame) : State := s.clockFrame (f.bits code)

/-- What a command does to the part, and its result (R166, R167). -/
structure Reply where
  state : State
  result : List Byte

/-- R171: a refusal is the status alone and changes nothing. -/
def refuse (st : Status) (s : State) : Reply := ⟨s, [st.code]⟩

/-- R171: OK with no result bytes. -/
def accept (s : State) : Reply := ⟨s, [Status.ok.code]⟩

/-- R171: OK with result bytes, from a command that changes nothing. -/
def report (bytes : List Byte) (s : State) : Reply := ⟨s, Status.ok.code :: bytes⟩

/-- R163 to R167, R190: the end of a frame whose byte 0 is `code`. In reset the edges are ignored, and while CLK does not run
no frame is received. A frame whose CS_N has been low since before the part left reset carries no command. A frame shorter
than its command is refused FRAME_SHORT. Otherwise the command acts and its result replaces the result buffer. -/
def State.takeFrame (s : State) (code : Byte) (f : Frame) (act : State → Reply) : State :=
  if !s.takesEvents then s
  else if s.link.csHeldLow then s.endHeldFrame
  else if f.length < (frameLength code).getD 1 then (s.receive code f).answer [Status.frameShort.code]
  else (act (s.receive code f)).state.answer (act (s.receive code f)).result

/-- R10, R166: the index check of a command that names one of `n` things. -/
def withIndex (n : Nat) (f : Frame) (s : State) (act : Fin n → Reply) : Reply :=
  match f.index? n with
  | some i => act i
  | none => refuse .badIndex s

/-! ## Events -/

/-- R107, R126, R163, R190: while the part is held in reset, and while CLK does not run, no event is taken. -/
def State.whenRunning (s : State) (event : State → State) : State := if s.takesEvents then event s else s

/-- R6, R31, R52, R57, R78, R80, R94, R95, R106, R107, R127, R148, R152, R159, R163, R167, R190: the part held in reset, with
SDO not driven and IRQ_N released. What is no state of the part's own is kept: whether CLK runs, the waiting commands and the
counter of free values. -/
def State.enterReset (s : State) : State :=
  { inReset := true, clkRuns := s.clkRuns, freeIndex := s.freeIndex, pending := s.pending }

end Sys2Proof.Machine
end

