-- ==== Sys2Proof/Machine/Port.lean ====
section
/-!
DEFINITION. The memory port's own operations (R95 to R103): the settle counts, the arrival of pass-through requests, the
grant of a tag, and the command PORT_CONFIG.
-/
namespace Sys2Proof.Machine

/-- The state of a tag. -/
def State.tag (s : State) (t : TagId) : TagState := s.port.tags[t]

/-- Change the state of a tag. -/
def State.setTag (s : State) (t : TagId) (x : TagState) : State :=
  s.setPort { s.port with tags := s.port.tags.set t.val x }

/-- R97: the settle count of a group. -/
def State.settleCount (s : State) (g : GroupId) : Nat := s.port.settle[g]

/-- R97: the settle counts after one of the group named by `mark` has changed. -/
def changeSettle (mark : Option GroupId) (change : Nat → Nat) (counts : Vector Nat 8) : Vector Nat 8 :=
  match mark with
  | none => counts
  | some g => counts.set g.val (change counts[g])

/-! ## Granting a tag (R98, R99) -/

/-- R98: the lowest-numbered FREE tag. -/
def MemoryPort.freeTag? (p : MemoryPort) : Option TagId := allTags.find? fun t => p.tags[t].isFree

/-- R96: the engine has a request on the release side. -/
def Engine.asks (e : Engine) : Bool := e.write == .requested

/-- R98: the side that is granted a tag: the one that alone has a request waiting, or, when both have, the side that is
not the last-granted side. -/
def State.winner (s : State) : Option PortSide :=
  match s.port.waiting.isEmpty, s.engine.asks with
  | true, false => none
  | false, false => some .passThrough
  | true, true => some .release
  | false, true =>
    match s.port.lastGranted with
    | .passThrough => some .release
    | .release => some .passThrough

/-- R99: issue the oldest pass-through request on tag `t`. -/
def State.issuePass (s : State) (t : TagId) : State :=
  match s.port.waiting with
  | [] => s
  | r :: rest =>
    s.setPort { s.port with
      tags := s.port.tags.set t.val (.busy (.passThrough r) 0 s.port.timeout)
      waiting := rest
      lastGranted := .passThrough }

/-- R99: issue the engine's release write on tag `t`, with its write copy. -/
def State.issueRelease (s : State) (t : TagId) : State :=
  match s.engine.copy with
  | none => s
  | some e =>
    (s.setPort { s.port with
      tags := s.port.tags.set t.val (.busy (.release e) 0 s.port.timeout)
      lastGranted := .release }).setEngine { s.engine with write := .issued }

/-- R98: one grant, when a tag is FREE and a request waits. -/
def State.grantOne (s : State) : State :=
  match s.port.freeTag?, s.winner with
  | some t, some .passThrough => s.issuePass t
  | some t, some .release => s.issueRelease t
  | _, _ => s

/-- R98: one grant for each FREE tag while a request waits. There are four tags. -/
def State.grantAll (s : State) : State := s.grantOne.grantOne.grantOne.grantOne

/-! ## The pass-through side (R77, R96, R97) -/

/-- R77, R96, R97: a pass-through request arrives: it takes the last place of its side and raises the settle count of its
mark. It is granted at once when a tag is FREE (R98). -/
def State.handOver (s : State) (r : PassRequest) : State :=
  (s.setPort { s.port with
    waiting := s.port.waiting ++ [r]
    settle := changeSettle r.mark (fun n => n + 1) s.port.settle }).grantOne

/-! ## PORT_CONFIG (R103) -/

/-- R103: the response timeout of requests issued from now on. -/
def portConfigReply (timeout : Nat) (s : State) : Reply :=
  if timeout < 256 then refuse .badArg s else accept (s.setPort { s.port with timeout := timeout })

/-- PORT_CONFIG (R103). -/
def execPortConfig (f : Frame) (s : State) : Host.Outcome State Fault Refusal :=
  .next (s.takeFrame 0x38 f (portConfigReply (f.half 2).toNat))

end Sys2Proof.Machine
end

