-- ==== Sys2Proof/Machine/Store.lean ====
section
/-!
DEFINITION. The staging store (R30 to R51): adding a captured beat, looking up staged words, freeing entries, the check
code, and the command ENTRY_READ.
-/
namespace Sys2Proof.Machine

/-! ## Bytes of a word -/

/-- The bits of a word that a byte mask selects. -/
def maskBits (m : Mask) : Word :=
  (if m.getLsbD 3 then 0xFF#8 else 0#8) ++ (if m.getLsbD 2 then 0xFF#8 else 0#8) ++
    (if m.getLsbD 1 then 0xFF#8 else 0#8) ++ (if m.getLsbD 0 then 0xFF#8 else 0#8)

/-- `old` with the bytes that `m` selects replaced by those of `new` (R34, R35, R75). -/
def mergeBytes (m : Mask) (new old : Word) : Word := (new &&& maskBits m) ||| (old &&& ~~~(maskBits m))

/-! ## Adding a captured beat (R35 to R38) -/

/-- R35: the answers of the store to an add request. -/
inductive AddAnswer where
  | merged
  | appended
  | noRoom
  deriving DecidableEq, Repr

/-- R34, R38: the entry made from a beat: the bytes the mask does not select hold 0x00. -/
def newEntry (address data : Word) (mask : Mask) : Entry := ⟨address, mergeBytes mask data 0, mask⟩

/-- R35: an entry after a beat at its word address has merged into it. -/
def Entry.merge (e : Entry) (data : Word) (mask : Mask) : Entry :=
  { e with data := mergeBytes mask data e.data, mask := e.mask ||| mask }

/-- R35: the list after a beat has merged into the first entry at its word address. -/
def mergeInto (address data : Word) (mask : Mask) : List Entry → List Entry
  | [] => []
  | e :: rest => if e.address = address then e.merge data mask :: rest else e :: mergeInto address data mask rest

/-- R41: the entries a group holds at a word address, in list order. -/
def State.lookup (s : State) (g : GroupId) (address : Word) : List Entry :=
  (s.group g).entries.filter fun e => e.address == address

/-- R37: there is room for a new entry of the group. -/
def State.hasRoom (s : State) (g : GroupId) : Bool :=
  decide ((s.group g).entries.length < (s.group g).config.cap) && decide (0 < s.free)

/-- R36 to R38: an add request that asks for a new entry. -/
def State.appendEntry (s : State) (g : GroupId) (address data : Word) (mask : Mask) : State × AddAnswer :=
  if s.hasRoom g then
    ((s.setFree (s.free - 1)).modifyGroup g fun r => { r with entries := r.entries ++ [newEntry address data mask] },
      .appended)
  else (s, .noRoom)

/-- R35, R36: an add request. -/
def State.addRequest (s : State) (g : GroupId) (address data : Word) (mask : Mask) : State × AddAnswer :=
  match (s.group g).config.mode with
  | .coalesce =>
    if (s.lookup g address).isEmpty then s.appendEntry g address data mask
    else (s.modifyGroup g fun r => { r with entries := mergeInto address data mask r.entries }, .merged)
  | .ordered => s.appendEntry g address data mask

/-! ## Freeing (R42) -/

/-- R42: free the entry at position 0 of a group's list. -/
def State.freeHead (s : State) (g : GroupId) : State :=
  match (s.group g).entries with
  | [] => s
  | _ :: rest => (s.setFree (s.free + 1)).modifyGroup g fun r => { r with entries := rest }

/-! ## The check code (R47, R48) -/

/-- R48: one step: shift right by one bit, and combine with the polynomial if the bit shifted out was 1. -/
def crcStep (r : Word) : Word := if r.getLsbD 0 then (r >>> 1) ^^^ 0xEDB88320#32 else r >>> 1

/-- R48: feed one byte. -/
def crcByte (r : Word) (b : Byte) : Word :=
  crcStep (crcStep (crcStep (crcStep (crcStep (crcStep (crcStep (crcStep (r ^^^ b.setWidth 32))))))))

/-- R48: the check code of a byte sequence. -/
def crc (bytes : List Byte) : Word := ~~~(bytes.foldl crcByte 0xFFFFFFFF#32)

/-- R47: the nine bytes an entry contributes. -/
def Entry.checkBytes (e : Entry) : List Byte :=
  [e.address.extractLsb' 0 8, e.address.extractLsb' 8 8, e.address.extractLsb' 16 8, e.address.extractLsb' 24 8,
    e.mask.setWidth 8,
    e.data.extractLsb' 0 8, e.data.extractLsb' 8 8, e.data.extractLsb' 16 8, e.data.extractLsb' 24 8]

/-- R47: the check code of a list. -/
def checkCodeOf (entries : List Entry) : Word := crc (entries.flatMap Entry.checkBytes)

/-! ## ENTRY_READ (R49) -/

/-- R49: the entry at a position of a group's list, or BAD_INDEX when the list does not reach it. -/
def entryReadReply (g : GroupId) (i : Nat) (s : State) : Reply :=
  match (s.group g).entries[i]? with
  | some e => report e.bytes s
  | none => refuse .badIndex s

/-- ENTRY_READ (R49, R50). -/
def execEntryRead (f : Frame) (s : State) : Host.Outcome State Fault Refusal :=
  .next (s.takeFrame 0x18 f fun s => withIndex 8 f s fun g => entryReadReply g (f.half 2).toNat s)

end Sys2Proof.Machine
end

