-- ==== Sys2Proof/Machine/Capture.lean ====
section
/-!
DEFINITION. The capture unit (R52 to R79): the governing window, the fence test, the decision of each beat, the judgement
of the head transaction, and the events ACCEPTANCE and TRANSACTION_RESPONSE.
-/
namespace Sys2Proof

/-! ## Beats and windows -/

/-- R52: the word address of beat `k`. -/
def Transaction.beatAddress (t : Transaction) (k : Nat) : Word := t.start + BitVec.ofNat 32 (4 * k)

/-- R55: the aligned 1 KiB block of an address. -/
def blockOf (address : Word) : Nat := address.toNat / 1024

/-- R55: the first and the last beat lie in different blocks. -/
def Transaction.crossesBlock (t : Transaction) : Bool :=
  blockOf (t.beatAddress 0) != blockOf (t.beatAddress (t.beatCount - 1))

namespace Machine

/-- R57, R58: the window is valid and covers the address, from its base up to its limit plus 63. -/
def Window.covers (w : Window) (address : Word) : Bool :=
  w.valid && decide (w.base.toNat ≤ address.toNat) && decide (address.toNat ≤ w.limit.toNat + 63)

/-- The sixteen windows in ascending order. -/
def allWindows : List (Fin 16) := [0, 1, 2, 3, 4, 5, 6, 7, 8, 9, 10, 11, 12, 13, 14, 15]

/-- R58: the governing window of a beat: the lowest-numbered valid window that covers its word address. -/
def State.governing (s : State) (address : Word) : Option Window :=
  (allWindows.map s.window).find? fun w => w.covers address

/-! ## The fence test (R63) -/

/-- R63: the governing group of a beat, when it is RELEASING. -/
def State.fencedBeat (s : State) (t : Transaction) (k : Nat) : Option GroupId :=
  match s.governing (t.beatAddress k) with
  | none => none
  | some w => if (s.group w.group).state == .releasing then some w.group else none

/-- R63: the RELEASING group that a beat of the transaction is governed by, if any. -/
def State.fenceTest (s : State) (t : Transaction) : Option GroupId :=
  (List.range t.beatCount).findSome? (s.fencedBeat t)

/-! ## Deciding a write beat (R67 to R73) -/

/-- R69: the requester passes the filter of a group. -/
def GroupConfig.passesFilter (c : GroupConfig) (requester : Fin 16) : Bool :=
  match c.filter with
  | none => true
  | some r => r == requester

/-- R73: a group in one of these states can be collided with. -/
def GroupState.holdsFixedEntries : GroupState → Bool
  | .closed => true
  | .armed => true
  | .pending => true
  | .faulted => true
  | .idle => false
  | .opened => false
  | .releasing => false

/-- R71: an overflow of a beat captured for `g`: the flag is set, and the first of the open period queues a record. -/
def State.noteOverflow (s : State) (g : GroupId) : State :=
  if (s.group g).overflowReported then s.modifyGroup g GroupRecord.overflow
  else (s.modifyGroup g GroupRecord.overflow).offerPlain .overflow (some g)

/-- R73: the collision check of a write miss under PASS. -/
def State.checkCollision (s : State) (g : GroupId) (address : Word) : State :=
  if (s.group g).state.holdsFixedEntries && !(s.lookup g address).isEmpty then s.modifyGroup g GroupRecord.collide
  else s

/-- The pass-through write of a beat (R77). -/
def passWrite (id k : Nat) (address : Word) (b : WriteBeat) (mark : Option GroupId) : PassRequest :=
  { address, access := .write b.data b.mask, mark, id, beat := k }

/-- R68, R70, R71: a captured beat. -/
def State.captureBeat (s : State) (id k : Nat) (address : Word) (b : WriteBeat) (g : GroupId) : State × BeatResult :=
  match s.addRequest g address b.data b.mask with
  | (s', .merged) => (s', .finished .okay 0)
  | (s', .appended) => (s', .finished .okay 0)
  | (s', .noRoom) =>
    match (s.group g).config.overflow with
    | .refuse => (s'.noteOverflow g, .finished .error 0)
    | .through => ((s'.noteOverflow g).handOver (passWrite id k address b (some g)), .outstanding)

/-- R72, R73: a write miss. -/
def State.missBeat (s : State) (id k : Nat) (address : Word) (b : WriteBeat) (w : Window) : State × BeatResult :=
  match w.miss with
  | .refuse => (s, .finished .error 0)
  | .pass => ((s.checkCollision w.group address).handOver (passWrite id k address b (some w.group)), .outstanding)

/-- R67: the decision of write beat `k`. -/
def State.decideWrite (s : State) (id : Nat) (t : Transaction) (k : Nat) (b : WriteBeat) : State × BeatResult :=
  if b.mask = 0 then (s, .finished .okay 0)
  else
    match s.governing (t.beatAddress k) with
    | none => (s.handOver (passWrite id k (t.beatAddress k) b none), .outstanding)
    | some w =>
      if (s.group w.group).state == .opened && (s.group w.group).config.passesFilter t.requester then
        s.captureBeat id k (t.beatAddress k) b w.group
      else s.missBeat id k (t.beatAddress k) b w

/-! ## Deciding a read beat (R74, R75) -/

/-- R75: the overlay of the entries of a lookup, in list order. -/
def overlayOf (entries : List Entry) : Overlay :=
  entries.foldl (fun o e => ⟨mergeBytes e.mask e.data o.data, o.mask ||| e.mask⟩) ⟨0, 0⟩

/-- R74: the entries a merge candidate is overlaid with. An IDLE group holds none to look up, and a RELEASING one is
fenced. -/
def State.mergeEntries (s : State) (w : Window) (address : Word) : List Entry :=
  match w.read, (s.group w.group).state with
  | .pass, _ => []
  | .merge, .idle => []
  | .merge, .releasing => []
  | .merge, .opened => s.lookup w.group address
  | .merge, .closed => s.lookup w.group address
  | .merge, .armed => s.lookup w.group address
  | .merge, .pending => s.lookup w.group address
  | .merge, .faulted => s.lookup w.group address

/-- R74, R75: the decision of read beat `k`. -/
def State.decideRead (s : State) (id : Nat) (t : Transaction) (k : Nat) : State × BeatResult :=
  match s.governing (t.beatAddress k) with
  | none => (s.handOver { address := t.beatAddress k, access := .read, mark := none, id, beat := k }, .outstanding)
  | some w =>
    match s.mergeEntries w (t.beatAddress k) with
    | [] =>
      (s.handOver { address := t.beatAddress k, access := .read, mark := some w.group, id, beat := k }, .outstanding)
    | e :: es =>
      if (overlayOf (e :: es)).mask = 0xF then (s, .finished .okay (overlayOf (e :: es)).data)
      else
        (s.handOver { address := t.beatAddress k, access := .read, mark := some w.group, id, beat := k,
                      overlay := some (overlayOf (e :: es)) }, .outstanding)

/-! ## The judgement (R54, R55) -/

/-- Change the transaction with a given name. -/
def State.modifyIngress (s : State) (id : Nat) (change : Ingress → Ingress) : State :=
  s.setIngress (s.ingress.map fun u => if u.id = id then change u else u)

/-- R54: the next beat of a transaction has been decided, with the given result. -/
def Ingress.decideBeat (result : BeatResult) (u : Ingress) : Ingress := { u with results := u.results ++ [result] }

/-- R54: dispatch a beat of the transaction `id` as it has been decided. -/
def State.dispatchBeat (id : Nat) (decided : State × BeatResult) : State :=
  decided.1.modifyIngress id (Ingress.decideBeat decided.2)

/-- R54, R70: what happens before beat `k`: nothing before beat 0, and `gap` between two beats. -/
def State.beforeBeat (s : State) (gap : State → State) (k : Nat) : State := if k = 0 then s else gap s

/-- R54: decide and dispatch the read beats from beat `k` on, `n` of them, with `gap` between two beats. -/
def State.decideReads (s : State) (gap : State → State) (id : Nat) (t : Transaction) (k : Nat) : Nat → State
  | 0 => s
  | n + 1 => (State.dispatchBeat id ((s.beforeBeat gap k).decideRead id t k)).decideReads gap id t (k + 1) n

/-- R40, R54: decide and dispatch the write beats from beat `k` on, each against the room the store has at the time, with
`gap` between two beats: a later beat may find room that another event has freed in between (R70, log 30). -/
def State.decideWrites (s : State) (gap : State → State) (id : Nat) (t : Transaction) (k : Nat) : List WriteBeat → State
  | [] => s
  | b :: rest => (State.dispatchBeat id ((s.beforeBeat gap k).decideWrite id t k b)).decideWrites gap id t (k + 1) rest

/-- R54: decide and dispatch every beat, in beat order, with `gap` between two beats. -/
def State.decideBeats (s : State) (gap : State → State) (id : Nat) (t : Transaction) : State :=
  match t.transfer with
  | .read n => s.decideReads gap id t 0 n
  | .write beats => s.decideWrites gap id t 0 beats

/-- R54: a transaction whose beats have all been dispatched becomes DISPATCHED. -/
def Ingress.dispatch (u : Ingress) : Ingress := { u with dispatched := true }

/-- R55: a transaction that crosses a 1 KiB block becomes DISPATCHED with ERROR for every beat. -/
def Ingress.failWhole (u : Ingress) : Ingress :=
  { u with dispatched := true, results := List.replicate u.request.beatCount (.finished .error 0) }

/-- R52: the head: the oldest WAITING transaction. -/
def State.head? (s : State) : Option Ingress := s.ingress.find? fun u => !u.dispatched

/-- R54, R55, R63: the judgement of the head transaction `u`. -/
def State.judgeHead (s : State) (gap : State → State) (u : Ingress) : State :=
  if u.request.crossesBlock then s.modifyIngress u.id Ingress.failWhole
  else
    match s.fenceTest u.request with
    | some g => s.setFence (some g)
    | none => (s.decideBeats gap u.id u.request).modifyIngress u.id Ingress.dispatch

/-- R54, R64: the judgement that is due: of the head, unless it waits at the fence. What happens between two of its beats is
`gap`: State.betweenBeats for the command JUDGEMENT, and nothing inside the end of a release (log 30). -/
def State.judge (s : State) (gap : State → State) : State :=
  match s.head?, s.fencedOn with
  | some u, none => s.judgeHead gap u
  | _, _ => s

/-- Several judgements, one after another, with nothing between two beats. -/
def State.judgeTimes (s : State) : Nat → State
  | 0 => s
  | n + 1 => (s.judge id).judgeTimes n

/-! ## The end of a pass-through beat (R76, R77) -/

/-- R76, R77, R101: the result of a beat from what the memory port returns. A READ that fails carries the data 0, and a
merged read takes the overlay's bytes where the overlay mask is set. -/
def PassRequest.result (r : PassRequest) (answer : Answer) (data : Word) : BeatResult :=
  match answer, r.access, r.overlay with
  | .error, _, _ => .finished .error 0
  | .okay, .write _ _, _ => .finished .okay 0
  | .okay, .read, none => .finished .okay data
  | .okay, .read, some o => .finished .okay (mergeBytes o.mask o.data data)

/-- R56: a beat finishes. -/
def Ingress.finishBeat (k : Nat) (result : BeatResult) (u : Ingress) : Ingress :=
  { u with results := u.results.set k result }

/-- R77, R97: a pass-through request ends: its beat finishes and the settle count of its mark falls. -/
def State.endPass (s : State) (r : PassRequest) (answer : Answer) (data : Word) : State :=
  (s.modifyIngress r.id (Ingress.finishBeat r.beat (r.result answer data))).setPort
    { s.port with settle := changeSettle r.mark (fun n => n - 1) s.port.settle }

/-! ## Responses to the masters (R56) -/

/-- R56: the beat has finished. -/
def BeatResult.isFinished : BeatResult → Bool
  | .outstanding => false
  | .finished _ _ => true

/-- R56: the beat has finished OKAY. -/
def BeatResult.isOkay : BeatResult → Bool
  | .finished .okay _ => true
  | .finished .error _ => false
  | .outstanding => false

/-- R56: the transaction is complete: it is DISPATCHED and all its beats have finished. -/
def Ingress.isComplete (u : Ingress) : Bool := u.dispatched && u.results.all BeatResult.isFinished

/-- R56: the response of a complete transaction. -/
def Ingress.systemResponse (u : Ingress) : SystemResponse :=
  match u.request.transfer with
  | .read _ => .read u.request.requester u.results
  | .write _ => .write u.request.requester (if u.results.all BeatResult.isOkay then .okay else .error)

/-- R56: return the response of the oldest transaction, when it is complete, and free its place. -/
def State.respond (s : State) : State :=
  match s.ingress with
  | [] => s
  | u :: rest => if u.isComplete then { s with ingress := rest, response := some u.systemResponse } else s

/-- R53: a transaction offered on the system port takes a place of the ingress queue, or is held off when it holds 8. -/
def State.acceptTransaction (s : State) (t : Transaction) : State :=
  if s.ingress.length < 8 then
    { s with ingress := s.ingress ++ [{ id := s.nextId, request := t }], nextId := s.nextId + 1 }
  else s

/-! ## The events -/

/-- ACCEPTANCE (R53). A term that R52 calls no transaction is refused (log 16). -/
def execAcceptance (t : Transaction) (s : State) : Host.Outcome State Fault Refusal :=
  if t.wellFormed then .next (s.whenRunning fun s => s.acceptTransaction t) else .refused .notATransaction

/-- TRANSACTION_RESPONSE (R56). -/
def execTransactionResponse (s : State) : Host.Outcome State Fault Refusal := .next (s.whenRunning State.respond)

end Machine
end Sys2Proof
end

