-- ==== Sys2Proof/Machine/Engine.lean ====
section
/-!
DEFINITION. The release engine (R80 to R94): the taking of a group, the settling, the walk over the list, the end of a
release and of a stop, and the events TAKING, SETTLING_END and RELEASE_COMPLETION.
-/
namespace Sys2Proof.Machine

/-! ## The group controller at the end of a release (R27 to R29) -/

/-- R89: the three outcomes of a release. -/
inductive ReleaseOutcome where
  | complete
  | fault
  | stopped
  deriving DecidableEq, Repr

/-- R4: the end of a release numbers it and records its counts. -/
def GroupRecord.endRelease (written failed : Nat) (r : GroupRecord) : GroupRecord :=
  { r with sequence := r.sequence + 1, lastWritten := written, lastFailed := failed }

/-- R4: the report that the record of an ended release carries, from the group's record after `GroupRecord.endRelease`. -/
def GroupRecord.report (r : GroupRecord) : ReleaseReport :=
  { sequence := r.sequence, written := r.lastWritten, failed := r.lastFailed }

/-- R5, R24, R133, R140: the counts of a group as they are reported with its RELEASED record. -/
def GroupRecord.reportedCounts (r : GroupRecord) : ReportedCounts := { missed := r.missedCount, collisions := r.collisionCount }

/-- R27 (2), R5, R24, R133, R140: offer the RELEASED record of `g`. When the queue stores it, the group's counts are reported
with it, beside the fields of R149 (log 27). -/
def State.offerReleased (s : State) (g : GroupId) : State :=
  (s.offer .released (some g) (some (s.group g).report) (s.group g).recordFlags).setReported
    (if s.completions.records.length < 32 then s.reported ++ [(s.group g).reportedCounts] else s.reported)

/-- R27 (4): return to ARMED with the same condition, the repeats lowered by one unless they are 255, and the deadline
loaded anew. -/
def GroupRecord.rearm (r : GroupRecord) : GroupRecord :=
  { r with state := .armed
           repeatsRemaining := if r.repeatsRemaining = 255 then 255 else r.repeatsRemaining - 1
           deadlineRemaining := r.config.loadedDeadline }

/-- R27 (3), (4): what a completion makes of the group once its RELEASED record has been formed. -/
def State.settleCompleted (s : State) (g : GroupId) : State :=
  if 0 < (s.group g).repeatsRemaining then s.modifyGroup g fun r => r.clearFlags.rearm
  else (s.modifyGroup g GroupRecord.clearFlags).emptyGroup g

/-- R27 (5), R137: the groups that a completion of `g` fires: those whose condition is AFTER(g), and `g` itself when it has
returned to ARMED with the condition IMMEDIATE. -/
def State.firedByCompletion (s : State) (g : GroupId) : List GroupId :=
  allGroups.filter fun k =>
    (s.group k).condition == some (.after g) ||
      (k == g && (s.group g).state == .armed && (s.group g).condition == some .immediate)

/-- R27: the completion of a release of `g`. -/
def State.completeGroup (s : State) (g : GroupId) (written failed : Nat) : State :=
  let s1 := s.modifyGroup g (GroupRecord.endRelease written failed)
  let s2 := (s1.offerReleased g).settleCompleted g
  s2.fireGroups (s2.firedByCompletion g)

/-- R28 (3): the record of a group whose release has faulted. -/
def GroupRecord.toFaulted (r : GroupRecord) : GroupRecord :=
  { r with state := .faulted, condition := none, deadlineRemaining := none, repeatsRemaining := 0 }

/-- R28: the fault of a release of `g`. -/
def State.faultGroup (s : State) (g : GroupId) (written failed : Nat) : State :=
  let s1 := s.modifyGroup g (GroupRecord.endRelease written failed)
  let s2 := s1.offer .releaseFault (some g) (some (s1.group g).report) (s1.group g).recordFlags
  (s2.modifyGroup g GroupRecord.toFaulted).breakSuccessors g

/-- R29, R151: the end of a release of `g` stopped by GROUP_DISCARD. All flags of the record are clear. -/
def State.discardGroup (s : State) (g : GroupId) (written failed : Nat) : State :=
  let s1 := s.modifyGroup g (GroupRecord.endRelease written failed)
  let s2 := s1.offer .discarded (some g) (some (s1.group g).report) {}
  (s2.emptyGroup g).breakSuccessors g

/-! ## The end of a release (R89) -/

/-- R89: the group controller acts on the outcome. The end of a stop caused by SOFT_RESET changes no record (R29, R91). -/
def State.closeRelease (s : State) (g : GroupId) (o : ReleaseOutcome) : State :=
  match o, s.engine.cause with
  | .complete, _ => s.completeGroup g s.engine.written s.engine.failed
  | .fault, _ => s.faultGroup g s.engine.written s.engine.failed
  | .stopped, some .softReset => s
  | .stopped, some .discard => s.discardGroup g s.engine.written s.engine.failed
  | .stopped, none => s.discardGroup g s.engine.written s.engine.failed

/-- R64, R89: the fence lifts for a group that has left RELEASING. -/
def State.liftFence (s : State) (g : GroupId) : State :=
  if s.fencedOn == some g then s.setFence none else s

/-- R89: the end of a release, up to the taking of the next group: the group leaves RELEASING and the engine becomes IDLE
in one event. -/
def State.finishRelease (s : State) (o : ReleaseOutcome) : State :=
  match s.engine.group with
  | none => s.setEngine {}
  | some g => ((s.closeRelease g o).setEngine {}).liftFence g

/-! ## The walk over the list (R84) -/

/-- R84: the entry that the next release write carries: at position 0 of a one-shot release, and at the cursor of a
repeating one. -/
def State.nextEntry (s : State) : Option Entry :=
  match s.engine.group, s.engine.kind with
  | some g, some .oneShot => (s.group g).entries[0]?
  | some g, some .repeating => (s.group g).entries[s.engine.cursor]?
  | _, _ => none

/-- R84: take the write copy and ask for a tag. -/
def State.requestWrite (s : State) (e : Entry) : State :=
  s.setEngine { s.engine with write := .requested, copy := some e }

/-- R84, R88: with no write in hand, start the next release write, or complete the release by `finish` when the list has
been walked to its end. -/
def State.walkOn (s : State) (finish : State → State) : State :=
  match s.nextEntry with
  | some e => s.requestWrite e
  | none => finish s

/-- R83: SETTLING ends: enter DRAINING and start the first release write. -/
def State.endSettling (s : State) (finish : State → State) : State :=
  (s.setEngine { s.engine with state := .draining }).walkOn finish

/-! ## The taking (R81, R82) -/

/-- R82: the kind of a release of the group. -/
def GroupRecord.releaseKind (r : GroupRecord) : ReleaseKind := if r.repeatsRemaining = 0 then .oneShot else .repeating

/-- R81, R82: the release context right after the taking of `g`. -/
def State.takenContext (s : State) (g : GroupId) : Engine :=
  { state := .settling, group := some g, kind := some (s.group g).releaseKind }

/-- R26, R81: the group at the head leaves the queue and goes to RELEASING, and the engine enters SETTLING. -/
def State.takeGroup (s : State) (g : GroupId) (rest : List GroupId) : State :=
  ((s.setLaunchQueue rest).setEngine (s.takenContext g)).modifyGroup g fun r => { r with state := .releasing }

/-- R81, R83: the engine, when it is IDLE, takes the head of the launch queue. SETTLING ends in the same event when the
settle count of the group is 0. When the list is empty the release ends in the event of its own taking, and the engine
takes no further group in it (R89). -/
def State.takeHead (s : State) : State :=
  match s.engine.state, s.launchQueue with
  | .idle, g :: rest =>
    let s1 := s.takeGroup g rest
    if s1.settleCount g = 0 then s1.endSettling fun s => s.finishRelease .complete else s1
  | _, _ => s

/-- R64, R89: between the end of a release and the taking of the next group, heads that are due may be judged first. How
many is a free value of at most one for each place of the ingress queue (log 4). It is asked for only when a head waits
and the queue holds a group. Nothing comes between the beats of these judgements (log 30). -/
def State.judgeBeforeTaking (s : State) : State :=
  if s.head?.isSome && !s.launchQueue.isEmpty then
    s.useFree.judgeTimes (Config.judgementsBeforeTaking s.freeIndex % 9)
  else s

/-- R89: the end of a release, with the taking of the next group in the same event. -/
def State.endRelease (s : State) (o : ReleaseOutcome) : State := (s.finishRelease o).judgeBeforeTaking.takeHead

/-- R81: the IDLE engine takes the head of a queue that holds a group, and the write it may ask for is granted a FREE tag
(R98). -/
def State.takeNext (s : State) : State :=
  if s.engine.state == .idle && !s.launchQueue.isEmpty then s.takeHead.grantAll else s

/-- R81, R139: after the last notice of an event that appended groups to the launch queue, whose length was `before`, an
IDLE engine takes the head. -/
def State.takeIfAppended (s : State) (before : Nat) : State :=
  if before < s.launchQueue.length then s.takeNext else s

/-! ## The end of a release write (R85 to R87, R91) -/

/-- R42, R43, R85, R86: pass the entry whose write has ended: a one-shot release frees it, a repeating one moves the
cursor. -/
def State.passEntry (s : State) (g : GroupId) : State :=
  match s.engine.kind with
  | some .oneShot => s.freeHead g
  | some .repeating => s.setEngine { s.engine with cursor := s.engine.cursor + 1 }
  | none => s

/-- R85: the write copy becomes absent and the write state NONE. -/
def State.dropWrite (s : State) : State := s.setEngine { s.engine with write := .none, copy := none }

/-- R85, R86, R91: count the outcome of a write. -/
def State.countWrite (s : State) (answer : Answer) : State :=
  match answer with
  | .okay => s.setEngine { s.engine with written := s.engine.written + 1 }
  | .error => s.setEngine { s.engine with failed := s.engine.failed + 1 }

/-- R85 to R87: the outcome of the ISSUED write of `g`, during DRAINING. -/
def State.writeEndedDraining (s : State) (g : GroupId) (answer : Answer) : State :=
  match answer, (s.group g).config.errorPolicy with
  | .error, .abort => (s.setEngine { s.engine with failed := 1 }).dropWrite.endRelease .fault
  | _, _ => (((s.countWrite answer).passEntry g).dropWrite).walkOn fun s => s.endRelease .complete

/-- R91: the entry of the write that was outstanding is freed when the stop was caused by a discard, the release is
one-shot, and the write was answered OKAY or failed under CONTINUE. -/
def State.freeStopped (s : State) (g : GroupId) (answer : Answer) : State :=
  match s.engine.cause, s.engine.kind, answer, (s.group g).config.errorPolicy with
  | some .discard, some .oneShot, .okay, _ => s.freeHead g
  | some .discard, some .oneShot, .error, .carryOn => s.freeHead g
  | _, _, _, _ => s

/-- R91: the outcome of the ISSUED write of `g`, during STOPPING: the stop ends. -/
def State.writeEndedStopping (s : State) (g : GroupId) (answer : Answer) : State :=
  (((s.countWrite answer).freeStopped g answer).dropWrite).endRelease .stopped

/-- R85 to R87, R91: the memory port hands the engine the outcome of its ISSUED write. -/
def State.writeEnded (s : State) (answer : Answer) : State :=
  match s.engine.state, s.engine.group with
  | .draining, some g => s.writeEndedDraining g answer
  | .stopping, some g => s.writeEndedStopping g answer
  | _, _ => s

/-! ## The settling (R83) -/

/-- R83: the engine is in SETTLING and the settle count of its group is 0. -/
def State.isSettled (s : State) : Bool :=
  match s.engine.state, s.engine.group with
  | .settling, some g => s.settleCount g == 0
  | _, _ => false

/-- R83: SETTLING ends at the event that brings the settle count of the group in hand to 0. -/
def State.settleOn (s : State) : State := if s.isSettled then s.endSettling fun s => s.endRelease .complete else s

/-! ## Stopping a release (R90, R92) -/

/-- R90, R91: a stop with no write outstanding, a REQUESTED write being withdrawn, ends in the event of the discard. -/
def State.stopAtOnce (s : State) : State :=
  ((s.setEngine { s.engine with state := .stopping, write := .none, copy := none, cause := some .discard }).endRelease
    .stopped).grantAll

/-- R90: GROUP_DISCARD of the group in hand. With no write outstanding the stop ends in the same event; with an ISSUED write
the engine waits for its end. A release that is already stopping stays as it is. -/
def State.stopByDiscard (s : State) : State :=
  match s.engine.state, s.engine.write with
  | .settling, _ => s.stopAtOnce
  | .draining, .issued => s.setEngine { s.engine with state := .stopping, cause := some .discard }
  | .draining, .requested => s.stopAtOnce
  | .draining, .none => s.stopAtOnce
  | .stopping, _ => s
  | .idle, _ => s

/-- R92: the effect of SOFT_RESET on the release context. -/
def Engine.softReset (e : Engine) : Engine :=
  match e.state, e.write with
  | .idle, _ => e
  | .settling, _ => {}
  | .draining, .issued => { e with state := .stopping, cause := some .softReset }
  | .draining, .requested => {}
  | .draining, .none => {}
  | .stopping, _ => { e with cause := some .softReset }

/-! ## The events -/

/-- TAKING (R81): as an event of its own, at a rising edge of CLK (R89). -/
def execTaking (s : State) : Host.Outcome State Fault Refusal :=
  .next (s.whenRunning State.takeNext)

/-- SETTLING_END (R83). -/
def execSettlingEnd (s : State) : Host.Outcome State Fault Refusal :=
  .next (s.whenRunning fun s => if s.isSettled then s.settleOn.grantAll else s)

/-- R88: the engine is in DRAINING with the write state NONE and has walked the list to its end. -/
def State.isWalked (s : State) : Bool :=
  s.engine.state == .draining && s.engine.write == .none && s.nextEntry.isNone

/-- RELEASE_COMPLETION (R88). -/
def execReleaseCompletion (s : State) : Host.Outcome State Fault Refusal :=
  .next (s.whenRunning fun s => if s.isWalked then (s.endRelease .complete).grantAll else s)

end Sys2Proof.Machine
end

