-- ==== Sys2Proof/Machine/Marks.lean ====
section
/-!
DEFINITION. The timebase's marks and the launch unit's handling of marks, TRIG edges and deadlines (R107 to R119, R124,
R128 to R143), with the events LINE_TIMER_EXPIRY, FSYNC_EDGE, TRIG_EDGE and DEADLINE_EXPIRY.
-/
namespace Sys2Proof.Machine

/-! ## Marks (R109, R110, R124) -/

/-- R124: the kinds of mark. -/
inductive MarkKind where
  | line
  | frame
  deriving DecidableEq, Repr

/-- R124: a mark carries its kind and the counters as they stood after it. -/
structure Mark where
  kind : MarkKind
  frame : Half
  line : Nat
  deriving DecidableEq, Repr

/-- R110: the effect of every frame mark on the counters. -/
def Timebase.frameMark (t : Timebase) : Timebase :=
  { t with frame := t.pendingLoad.getD (t.frame + 1), pendingLoad := none, line := 0, timer := 0 }

/-- R109 (3): the effect of a line mark on the counters. -/
def Timebase.lineMark (t : Timebase) : Timebase := { t with line := t.line + 1, timer := 0 }

/-- R111: the frame limit. -/
def Timebase.frameLimit (t : Timebase) : Option Nat :=
  match t.lock with
  | .none => some t.lines
  | .search => none
  | .locked => some (min (t.lines + t.tolerance) 4096)
  | .flywheel => some t.lines

/-! ## The launch unit (R128, R138, R139) -/

/-- R128: a launch point fires on a mark. -/
def LaunchPoint.fires (p : LaunchPoint) (m : Mark) : Bool :=
  p.enabled && (m.frame &&& p.frameMask == p.frameValue &&& p.frameMask) &&
    (if p.lineCheck then m.line == p.lineValue else m.kind == .frame)

/-- R138: the mark fires the launch condition. -/
def State.conditionFires (s : State) (m : Mark) (c : LaunchCondition) : Bool :=
  match c with
  | .point p => (s.point p).fires m
  | .nextFrame => m.kind == .frame
  | .immediate => false
  | .trig => false
  | .soft => false
  | .after _ => false

/-- R138: the mark fires the group, which holds a launch condition while it is ARMED, PENDING or RELEASING. -/
def State.markFires (s : State) (m : Mark) (g : GroupId) : Bool :=
  match (s.group g).condition with
  | some c => s.conditionFires m c
  | none => false

/-- R138: lower the deadline of an ARMED group. -/
def GroupRecord.lowerDeadline (r : GroupRecord) : GroupRecord :=
  match r.state with
  | .armed => { r with deadlineRemaining := r.deadlineRemaining.map fun n => n - 1 }
  | _ => r

/-- R138: the first step of a mark for one group: a frame mark that does not fire the group lowers its deadline. -/
def State.lowerOne (m : Mark) (fires : GroupId → Bool) (s : State) (g : GroupId) : State :=
  if m.kind == .frame && !fires g then s.modifyGroup g GroupRecord.lowerDeadline else s

/-- R138: the second step of a mark for one group: its notice, acted on before the next group's. -/
def State.markNotice (fires : GroupId → Bool) (s : State) (g : GroupId) : State :=
  if fires g then s.firingNotice g else s.expiryNotice g

/-- R138, R139: the launch unit takes a mark: it decides what the mark does to each group, hands over the notices in
ascending group number, and after the last one an IDLE engine takes the head of the queue (R81). -/
def State.takeMark (s : State) (m : Mark) : State :=
  let fires := s.markFires m
  ((allGroups.foldl (State.markNotice fires) (allGroups.foldl (State.lowerOne m fires) s))).takeIfAppended
    s.launchQueue.length

/-- R124: the mark of the given kind, with the counters as they stand after it. -/
def Timebase.mark (t : Timebase) (kind : MarkKind) : Mark := ⟨kind, t.frame, t.line⟩

/-- Hand the launch unit a mark with the counters as they stand. -/
def State.handMark (s : State) (kind : MarkKind) : State := s.takeMark (s.timebase.mark kind)

/-! ## The line timer (R109, R116) -/

/-- R109, R110, R116: a generated frame mark. In LOCKED it is a loss of sync, whose SYNC_LOST record stands before the
records of the launch unit. -/
def State.generatedFrame (s : State) : State :=
  match s.timebase.lock with
  | .locked =>
    ((s.setTimebase { s.timebase.frameMark with lock := .flywheel }).offerPlain .syncLost none).handMark .frame
  | _ => (s.setTimebase s.timebase.frameMark).handMark .frame

/-- R109: the line timer expires short of the frame limit. -/
def State.lineOrNothing (s : State) : State :=
  if s.timebase.line = 4095 then s.setTimebase { s.timebase with timer := 0 }
  else (s.setTimebase s.timebase.lineMark).handMark .line

/-- R109: the line timer expires. -/
def State.expireLine (s : State) : State :=
  match s.timebase.frameLimit with
  | some limit => if limit ≤ s.timebase.line + 1 then s.generatedFrame else s.lineOrNothing
  | none => s.lineOrNothing

/-! ## FSYNC (R112 to R117) -/

/-- R112, R114, R115, R117: an FSYNC edge as the timebase takes it. -/
def State.takeFsync (s : State) : State :=
  match s.timebase.mode, s.timebase.lock with
  | .internal, _ => s
  | .external, .none => s
  | .external, .search => (s.setTimebase { s.timebase.frameMark with lock := .locked }).handMark .frame
  | .external, .locked => (s.setTimebase s.timebase.frameMark).handMark .frame
  | .external, .flywheel =>
    ((s.setTimebase { s.timebase.frameMark with lock := .locked }).offerPlain .syncRegained none).handMark .frame

/-! ## TRIG (R135) -/

/-- R135: the groups whose launch condition is TRIG, in ascending order. -/
def State.trigGroups (s : State) : List GroupId := allGroups.filter fun g => (s.group g).condition == some .trig

/-- R135, R139: a TRIG edge as the launch unit takes it. -/
def State.takeTrig (s : State) : State := (s.fireGroups s.trigGroups).takeIfAppended s.launchQueue.length

/-- R126: replace the last level seen on TRIG. -/
def State.setTrigLevel (s : State) (high : Bool) : State := { s with trigLevel := high }

/-- R126: the last level seen after an input was sampled low `low` times and then high `high` times. -/
def levelAfter (before : Bool) (low high : Nat) : Bool :=
  if 0 < high then true else if 0 < low then false else before

/-! ## Edges as they are sampled (R190) -/

/-- R113, R135, R190: a rise of an input is seen as an edge for certain, when the input was sampled low `low` times and then
high `high` times: low on at least 2 consecutive samples and then high on at least 2; or low on fewer, when the rise before
it was missed, as of two such rises one is seen. -/
def edgeIsCertain (missed : Bool) (low high : Nat) : Bool := if 2 ≤ low then decide (2 ≤ high) else missed

/-- R113, R135, R190: an input was sampled low `low` times and then high `high` times, and `missed` says whether its last rise
was missed. A rise that is not certain to be seen may be seen as an edge or not: a free value (log 5). `note` keeps whether
it has been missed: a rise with a short low level before it that is not seen belongs to the edge seen before it. -/
def State.sampleEdge (s : State) (missed : Bool) (low high : Nat) (note : State → Bool → State) (edge : State → State) :
    State :=
  if edgeIsCertain missed low high then edge (note s false)
  else if Config.shortPulseSeen s.freeIndex then edge (note s.useFree false)
  else note s.useFree (decide (2 ≤ low))

/-- Replace what is known of the rises that have not been seen. -/
def State.setMissed (s : State) (m : MissedEdges) : State := { s with missedEdges := m }

/-- R113: whether the last rise of FSYNC was missed. -/
def State.noteFsync (s : State) (missed : Bool) : State := s.setMissed { s.missedEdges with fsync := missed }

/-- R135: whether the last rise of TRIG was missed. -/
def State.noteTrig (s : State) (missed : Bool) : State := s.setMissed { s.missedEdges with trig := missed }

/-! ## The events -/

/-- LINE_TIMER_EXPIRY (R109). The event says that the line timer has reached the line period (log 7). -/
def execLineTimerExpiry (s : State) : Host.Outcome State Fault Refusal := .next (s.whenRunning State.expireLine)

/-- FSYNC_EDGE (R113). -/
def execFsyncEdge (low high : Nat) (s : State) : Host.Outcome State Fault Refusal :=
  .next (s.whenRunning fun s => s.sampleEdge s.missedEdges.fsync low high State.noteFsync State.takeFsync)

/-- TRIG_EDGE (R135). A TRIG that was last seen high, by a rise that was not missed, and has not been sampled low has stayed
high, which is no edge (R135, R148, log 5). -/
def execTrigEdge (low high : Nat) (s : State) : Host.Outcome State Fault Refusal :=
  .next (s.whenRunning fun s =>
    if s.trigLevel && low == 0 && !s.missedEdges.trig then s
    else (s.setTrigLevel (levelAfter s.trigLevel low high)).sampleEdge s.missedEdges.trig low high State.noteTrig
      State.takeTrig)

/-- DEADLINE_EXPIRY (R142, R25): the expiry notice of a group. -/
def execDeadlineExpiry (g : GroupId) (s : State) : Host.Outcome State Fault Refusal :=
  .next (s.whenRunning fun s => (s.expiryNotice g).takeIfAppended s.launchQueue.length)

end Sys2Proof.Machine
end

