-- ==== Sys2Proof/Machine/MemoryPort.lean ====
section
/-!
DEFINITION. The events of the memory port: GRANT, RESPONSE and RESPONSE_TIMEOUT (R98 to R102).
-/
namespace Sys2Proof.Machine

/-- R101: a response or a failure is handed back to the block that made the request: a beat finishes and SETTLING may end
(R83), or the engine acts on the end of its write. -/
def State.handBack (s : State) (request : PortRequest) (answer : Answer) (data : Word) : State :=
  match request with
  | .passThrough r => (s.endPass r answer data).settleOn
  | .release _ => s.writeEnded answer

/-- R101: a response on a tag. On a BUSY tag it ends the request and frees the tag; on an ABANDONED tag it is late and is
discarded; on a FREE tag it is ignored. A tag freed by a response is granted once the response has been handed back and
acted on, and not to a request that comes before (R98): so it becomes FREE here at the end of that (log 19). -/
def State.takeResponse (s : State) (t : TagId) (answer : Answer) (data : Word) : State :=
  match s.tag t with
  | .free => s
  | .abandoned => (s.setTag t .free).grantAll
  | .busy request _ _ => ((s.handBack request answer data).setTag t .free).grantAll

/-- R102: the timeout that makes all four tags ABANDONED queues one DOWNSTREAM_STUCK record. -/
def State.noteStuck (s : State) : State := if s.port.isStuck then s.offerPlain .downstreamStuck none else s

/-- R100: the timer of a BUSY tag reaches the request's timeout: the tag becomes ABANDONED and the request has failed. A
tag that is not BUSY has no timer running. -/
def State.timeOut (s : State) (t : TagId) : State :=
  match s.tag t with
  | .free => s
  | .abandoned => s
  | .busy request _ _ => ((s.setTag t .abandoned).noteStuck.handBack request .error 0).grantAll

/-- GRANT (R98). -/
def execGrant (s : State) : Host.Outcome State Fault Refusal := .next (s.whenRunning State.grantOne)

/-- RESPONSE (R101). -/
def execResponse (t : TagId) (answer : Answer) (data : Word) (s : State) : Host.Outcome State Fault Refusal :=
  .next (s.whenRunning fun s => s.takeResponse t answer data)

/-- RESPONSE_TIMEOUT (R100). The event says that the timer has reached the timeout (log 7). -/
def execResponseTimeout (t : TagId) (s : State) : Host.Outcome State Fault Refusal :=
  .next (s.whenRunning fun s => s.timeOut t)

end Sys2Proof.Machine
end

