-- ==== Sys2Proof/Machine/Clock.lean ====
section
/-!
DEFINITION. One CLK period in which no command or event waits (R89, R99, R100, R109, R190): the timers advance, and a timer
that reaches its limit makes its event. The order of the events of one period is log 6.
-/
namespace Sys2Proof.Machine

/-- R99: the response timer of a BUSY tag advances by one. -/
def TagState.advance : TagState → TagState
  | .free => .free
  | .abandoned => .abandoned
  | .busy request timer timeout => .busy request (timer + 1) timeout

/-- R100: the timer of a BUSY tag has reached its timeout. -/
def TagState.isDue : TagState → Bool
  | .free => false
  | .abandoned => false
  | .busy _ timer timeout => decide (timeout ≤ timer)

/-- R100: the response timeout of a tag, when its timer has reached it. -/
def State.timeOutIfDue (s : State) (t : TagId) : State := if (s.tag t).isDue then s.timeOut t else s

/-- R99: every response timer advances. -/
def State.advanceTimers (s : State) : State := s.setPort { s.port with tags := s.port.tags.map TagState.advance }

/-- R109, R121: the line timer advances by one period of TBCLK, and expires when it reaches the line period or already
stands above it. -/
def State.tbclkPeriod (s : State) : State :=
  let s1 := s.setTimebase { s.timebase with timer := s.timebase.timer + 1 }
  if s1.timebase.linePeriod ≤ s1.timebase.timer then s1.expireLine else s1

/-- R190: a TBCLK period ends in this CLK period, or it does not: a free value (log 6). -/
def State.tbclkMayAdvance (s : State) : State :=
  if Config.tbclkPeriodEnds s.freeIndex then s.useFree.tbclkPeriod else s.useFree

/-- One CLK period outside reset: a taking put off to this edge (R89), the response timers, and the line timer. -/
def State.clockPeriod (s : State) : State :=
  (allTags.foldl State.timeOutIfDue (s.takeNext.advanceTimers)).tbclkMayAdvance

/-- A step on an empty queue. Whether CLK runs in it is a free value (log 28), and while it does not nothing happens. -/
def State.idle (s : State) : State := (s.useFree.setClk (Config.clkRuns s.freeIndex)).whenRunning State.clockPeriod

end Sys2Proof.Machine
end

