-- ==== Sys2Proof/Machine/Completions.lean ====
section
/-!
DEFINITION. The completion queue's commands QUEUE_POP and IRQ_CONFIG (R155, R159). Their index byte is not looked at
(R173).
-/
namespace Sys2Proof.Machine

/-- R155: what is left of the counts reported with the RELEASED records when `r` leaves the queue: its own leave with it. -/
def reportedAfter (r : CompletionRecord) (counts : List ReportedCounts) : List ReportedCounts :=
  match r.kind with
  | .released => counts.tail
  | _ => counts

/-- R155: remove the oldest record, which becomes the result, or refuse EMPTY. -/
def queuePopReply (s : State) : Reply :=
  match s.completions.records with
  | [] => refuse .empty s
  | r :: rest =>
    ⟨(s.setCompletions s.irq
        { s.completions with records := rest
                             urgent := s.completions.urgent - (if r.kind.isUrgent then 1 else 0) }).setReported
        (reportedAfter r s.reported),
      Status.ok.code :: r.bytes⟩

/-- QUEUE_POP (R155). -/
def execQueuePop (f : Frame) (s : State) : Host.Outcome State Fault Refusal := .next (s.takeFrame 0x40 f queuePopReply)

/-- R159: replace the three values and set IRQ_N anew. -/
def irqConfigReply (f : Frame) (s : State) : Reply :=
  match irqConfigOf f with
  | none => refuse .badArg s
  | some c => accept (s.setCompletions c s.completions)

/-- IRQ_CONFIG (R159). -/
def execIrqConfig (f : Frame) (s : State) : Host.Outcome State Fault Refusal :=
  .next (s.takeFrame 0x41 f (irqConfigReply f))

end Sys2Proof.Machine
end

