-- ==== Sys2Proof/Machine/Groups.lean ====
section
/-!
DEFINITION. The group commands (R10 to R23): GROUP_CONFIG, GROUP_OPEN, GROUP_CLOSE, GROUP_ARM, GROUP_DISARM, GROUP_LAUNCH,
GROUP_DISCARD and GROUP_STATUS. Each checks the index, then the arguments, then the state, then the rest (R10).
-/
namespace Sys2Proof.Machine

/-! ## GROUP_CONFIG (R11) -/

/-- R11: replace the configuration of an IDLE group. -/
def groupConfigReply (f : Frame) (s : State) (g : GroupId) : Reply :=
  match groupConfigOf f with
  | none => refuse .badArg s
  | some c =>
    if (s.group g).state = .idle then accept (s.modifyGroup g fun r => { r with config := c })
    else refuse .wrongState s

/-- GROUP_CONFIG (R11). -/
def execGroupConfig (f : Frame) (s : State) : Host.Outcome State Fault Refusal :=
  .next (s.takeFrame 0x10 f fun s => withIndex 8 f s (groupConfigReply f s))

/-! ## GROUP_OPEN (R12) -/

/-- R12, R71: open an IDLE group: a new open period, with the flags, the counts and the overflow-reported mark cleared. -/
def GroupRecord.openFromIdle (r : GroupRecord) : GroupRecord :=
  { r.clearFlags with state := .opened, overflowReported := false }

/-- R12: reopen a CLOSED group: the check code becomes absent and the open period goes on. -/
def GroupRecord.reopen (r : GroupRecord) : GroupRecord := { r with state := .opened, checkCode := none }

/-- R12: open an IDLE or a CLOSED group. -/
def groupOpenReply (s : State) (g : GroupId) : Reply :=
  match (s.group g).state with
  | .idle => accept (s.modifyGroup g GroupRecord.openFromIdle)
  | .closed => accept (s.modifyGroup g GroupRecord.reopen)
  | .opened => refuse .wrongState s
  | .armed => refuse .wrongState s
  | .pending => refuse .wrongState s
  | .releasing => refuse .wrongState s
  | .faulted => refuse .wrongState s

/-- GROUP_OPEN (R12). -/
def execGroupOpen (f : Frame) (s : State) : Host.Outcome State Fault Refusal :=
  .next (s.takeFrame 0x11 f fun s => withIndex 8 f s (groupOpenReply s))

/-! ## GROUP_CLOSE (R13) -/

/-- R13: close the group with the code computed over its list. -/
def GroupRecord.close (r : GroupRecord) : GroupRecord :=
  { r with state := .closed, checkCode := some (checkCodeOf r.entries) }

/-- R13: close an OPEN group, unless an expected code is given that differs from the computed one. -/
def groupCloseReply (f : Frame) (s : State) (g : GroupId) : Reply :=
  match f.flag? 2 with
  | none => refuse .badArg s
  | some given =>
    if (s.group g).state = .opened then
      if given && f.word 3 != checkCodeOf (s.group g).entries then
        ⟨s, Status.checkMismatch.code :: wordBytes (checkCodeOf (s.group g).entries)⟩
      else ⟨s.modifyGroup g GroupRecord.close, Status.ok.code :: wordBytes (checkCodeOf (s.group g).entries)⟩
    else refuse .wrongState s

/-- GROUP_CLOSE (R13). -/
def execGroupClose (f : Frame) (s : State) : Host.Outcome State Fault Refusal :=
  .next (s.takeFrame 0x12 f fun s => withIndex 8 f s (groupCloseReply f s))

/-! ## GROUP_ARM (R15, R16) -/

/-- R15: the launch conditions, followed from `h` through AFTER to AFTER for at most `fuel` groups, reach `g`. -/
def State.chainReaches (s : State) (g : GroupId) : Nat → GroupId → Bool
  | 0, _ => false
  | fuel + 1, h =>
    h == g ||
      match (s.group h).condition with
      | some (.after k) => s.chainReaches g fuel k
      | _ => false

/-- R9, R15: the group is ARMED, PENDING or RELEASING. -/
def GroupState.isWaitedOn : GroupState → Bool
  | .armed => true
  | .pending => true
  | .releasing => true
  | .idle => false
  | .opened => false
  | .closed => false
  | .faulted => false

/-- R15: the checks of a launch condition against the rest of the part. The conditions of the eight groups are followed
through at most nine links, which reach every group. -/
def State.armCheck (s : State) (g : GroupId) (c : LaunchCondition) : Option Status :=
  match c with
  | .point p => if (s.point p).enabled then none else some .badPoint
  | .after h => if (s.group h).state.isWaitedOn && !s.chainReaches g 9 h then none else some .badChain
  | .immediate => none
  | .nextFrame => none
  | .trig => none
  | .soft => none

/-- R16: the group as GROUP_ARM leaves it in ARMED. -/
def GroupRecord.arm (c : LaunchCondition) (r : GroupRecord) : GroupRecord :=
  { r with state := .armed, condition := some c, repeatsRemaining := r.config.repeats
           deadlineRemaining := r.config.loadedDeadline }

/-- R16: an accepted GROUP_ARM. With IMMEDIATE the group goes straight to PENDING with no deadline, and an IDLE engine
takes the head of the queue in the same event (R81, R172). -/
def State.armGroup (s : State) (g : GroupId) (c : LaunchCondition) : State :=
  match c with
  | .immediate => ((s.modifyGroup g (GroupRecord.arm .immediate)).makePending g).takeIfAppended s.launchQueue.length
  | _ => s.modifyGroup g (GroupRecord.arm c)

/-- R15, R16: the group is CLOSED or FAULTED. -/
def GroupState.canArm : GroupState → Bool
  | .closed => true
  | .faulted => true
  | .idle => false
  | .opened => false
  | .armed => false
  | .pending => false
  | .releasing => false

/-- R15, R16: arm a CLOSED or a FAULTED group. -/
def groupArmReply (f : Frame) (s : State) (g : GroupId) : Reply :=
  match launchConditionOf f with
  | none => refuse .badArg s
  | some c =>
    if (s.group g).state.canArm then
      match s.armCheck g c with
      | some st => refuse st s
      | none => accept (s.armGroup g c)
    else refuse .wrongState s

/-- GROUP_ARM (R15, R16). -/
def execGroupArm (f : Frame) (s : State) : Host.Outcome State Fault Refusal :=
  .next (s.takeFrame 0x13 f fun s => withIndex 8 f s (groupArmReply f s))

/-! ## GROUP_DISARM (R18) -/

/-- R18: withdraw an ARMED or a PENDING group. -/
def groupDisarmReply (s : State) (g : GroupId) : Reply :=
  match (s.group g).state with
  | .armed => accept ((s.modifyGroup g GroupRecord.toClosed).breakSuccessors g)
  | .pending => accept (((s.modifyGroup g GroupRecord.toClosed).removeLaunch g).breakSuccessors g)
  | .idle => refuse .wrongState s
  | .opened => refuse .wrongState s
  | .closed => refuse .wrongState s
  | .releasing => refuse .wrongState s
  | .faulted => refuse .wrongState s

/-- GROUP_DISARM (R18). -/
def execGroupDisarm (f : Frame) (s : State) : Host.Outcome State Fault Refusal :=
  .next (s.takeFrame 0x14 f fun s => withIndex 8 f s (groupDisarmReply s))

/-! ## GROUP_LAUNCH (R19, R136) -/

/-- R19: launch an ARMED group whatever its condition. -/
def groupLaunchReply (s : State) (g : GroupId) : Reply :=
  if (s.group g).state = .armed then accept ((s.makePending g).takeIfAppended s.launchQueue.length)
  else refuse .wrongState s

/-- GROUP_LAUNCH (R19). -/
def execGroupLaunch (f : Frame) (s : State) : Host.Outcome State Fault Refusal :=
  .next (s.takeFrame 0x15 f fun s => withIndex 8 f s (groupLaunchReply s))

/-! ## GROUP_DISCARD (R20, R21) -/

/-- R20, R21, R90: discard a group. The discard of a RELEASING group reaches the engine when the group is the one in
hand. -/
def State.discard (s : State) (g : GroupId) : State :=
  match (s.group g).state with
  | .idle => s
  | .opened => s.emptyGroup g
  | .closed => s.emptyGroup g
  | .armed => (s.emptyGroup g).breakSuccessors g
  | .pending => ((s.emptyGroup g).removeLaunch g).breakSuccessors g
  | .releasing => if s.engine.group = some g then s.stopByDiscard else s
  | .faulted => s.emptyGroup g

/-- GROUP_DISCARD (R20, R21). -/
def execGroupDiscard (f : Frame) (s : State) : Host.Outcome State Fault Refusal :=
  .next (s.takeFrame 0x16 f fun s => withIndex 8 f s fun g => accept (s.discard g))

/-! ## GROUP_STATUS (R23) -/

/-- GROUP_STATUS (R23). -/
def execGroupStatus (f : Frame) (s : State) : Host.Outcome State Fault Refusal :=
  .next (s.takeFrame 0x17 f fun s => withIndex 8 f s fun g => report (s.group g).bytes s)

end Sys2Proof.Machine
end

