-- ==== Sys2Proof/Machine/Judgement.lean ====
section
/-!
DEFINITION. The event JUDGEMENT (R54), with the events of the memory port that may come between two of its beats (R54, R70):
responses and timeouts that do not end a release.
-/
namespace Sys2Proof.Machine

/-- R85, R86: the walk after the end of a release write of `g` reaches the end of the list. -/
def State.walkEnds (s : State) (g : GroupId) (answer : Answer) : Bool :=
  ((s.countWrite answer).passEntry g).nextEntry.isNone

/-- R83, R85 to R88, R91: the end of the request ends the release in hand: the engine stops, its write has failed under
ABORT, the list has been walked to its end, or SETTLING ends with an empty list. -/
def State.endsRelease (s : State) (request : PortRequest) (answer : Answer) (data : Word) : Bool :=
  match request, s.engine.state, s.engine.group with
  | .release _, .stopping, some _ => true
  | .release _, .draining, some g =>
    (answer == .error && (s.group g).config.errorPolicy == .abort) || s.walkEnds g answer
  | .passThrough r, .settling, some _ => (s.endPass r answer data).isSettled && s.nextEntry.isNone
  | _, _, _ => false

/-- R54: the end of the request on a tag is barred between two beats: it would end a release, and so send notices and let
the engine take a group. -/
def State.barredBetweenBeats (s : State) (t : TagId) (answer : Answer) (data : Word) : Bool :=
  match s.tag t with
  | .free => false
  | .abandoned => false
  | .busy request _ _ => s.endsRelease request answer data

/-- R54, R70, R100, R101: the memory port takes an event between two beats, unless the event is barred there. -/
def State.takeBetween (s : State) (event : PortEvent) : State :=
  match event with
  | .response t answer data => if s.barredBetweenBeats t answer data then s else s.takeResponse t answer data
  | .timeout t => if s.barredBetweenBeats t .error 0 then s else s.timeOut t

/-- R54, R70: what happens between two beats of a judgement: any responses and timeouts that do not end a release. Which ones
is a free value (log 30). It is asked for only when some tag is not FREE: on a FREE tag nothing comes. -/
def State.betweenBeats (s : State) : State :=
  if allTags.all fun t => (s.tag t).isFree then s
  else (Config.portEventsBetweenBeats s.freeIndex).foldl State.takeBetween s.useFree

/-- JUDGEMENT (R54). -/
def execJudgement (s : State) : Host.Outcome State Fault Refusal :=
  .next (s.whenRunning fun s => s.judge State.betweenBeats)

end Sys2Proof.Machine
end

