-- ==== Sys2Proof/Machine/Link.lean ====
section
/-!
DEFINITION. The control link's own commands: NOP, BRIDGE_STATUS, SOFT_RESET, UNKNOWN_CMD and
FRAME_WITHOUT_COMPLETE_BYTE (R164, R165, R174 to R181).
-/
namespace Sys2Proof.Machine

/-- NOP (R174). -/
def execNop (f : Frame) (s : State) : Host.Outcome State Fault Refusal := .next (s.takeFrame 0x00 f accept)

/-! ## BRIDGE_STATUS (R175, R189) -/

/-- R189: place `i` of the launch queue; a place beyond the length holds 0xFF. -/
def launchPlace (q : List GroupId) (i : Nat) : Byte :=
  match q[i]? with
  | some g => byteOf g.val
  | none => 0xFF

/-- R175, R189: the result bytes of BRIDGE_STATUS. -/
def State.bridgeStatusBytes (s : State) : List Byte :=
  countBytes s.free ++ (allGroups.map fun g => (s.group g).state.code) ++ [s.engine.state.code] ++
    [byteOf s.launchQueue.length] ++ ((List.range 8).map (launchPlace s.launchQueue)) ++
    [byteOf s.completions.records.length, byteOf s.port.abandonedCount, flagByte s.port.isStuck, s.timebase.lock.code]

/-- BRIDGE_STATUS (R175). -/
def execBridgeStatus (f : Frame) (s : State) : Host.Outcome State Fault Refusal :=
  .next (s.takeFrame 0x01 f fun s => report s.bridgeStatusBytes s)

/-! ## SOFT_RESET (R7, R46, R79, R92, R105, R148, R157, R177) -/

/-- R7, R71: the group record after SOFT_RESET. The configuration part, the release sequence number and the last release
result are kept. -/
def GroupRecord.softReset (r : GroupRecord) : GroupRecord := { r.toIdle.clearFlags with overflowReported := false }

/-- R177: SOFT_RESET acts on every block. The fence lifts, and a fenced head is due to be judged again. The timebase, the
windows, the points, the ingress queue, the memory port and the IRQ configuration are kept (R178). -/
def State.softReset (s : State) : State :=
  (({ s with groups := s.groups.map GroupRecord.softReset
             free := 1024
             fencedOn := none
             engine := s.engine.softReset
             launchQueue := [] }).setCompletions s.irq {}).setReported []

/-- SOFT_RESET (R177). -/
def execSoftReset (f : Frame) (s : State) : Host.Outcome State Fault Refusal :=
  .next (s.takeFrame 0x0A f fun s => accept s.softReset)

/-! ## Frames that carry no command of the catalogue -/

/-- UNKNOWN_CMD (R165). A term whose code names a command is refused (log 16). -/
def execUnknownCmd (code : Byte) (f : Frame) (s : State) : Host.Outcome State Fault Refusal :=
  if codeNamesCommand code then .refused .codeNamesACommand else .next (s.takeFrame code f (refuse .unknownCmd))

/-- R163, R164, R168, R190: the end of a frame of fewer than eight bits: no command, and the result buffer is kept. -/
def State.takeShortFrame (s : State) (bits : Nat) : State :=
  if !s.takesEvents then s
  else if s.link.csHeldLow then s.endHeldFrame
  else s.clockFrame (List.replicate bits false)

/-- FRAME_WITHOUT_COMPLETE_BYTE (R164). -/
def execFrameWithoutCompleteByte (bits : Fin 8) (s : State) : Host.Outcome State Fault Refusal :=
  .next (s.takeShortFrame bits.val)

end Sys2Proof.Machine
end

