-- ==== Sys2Proof/Machine/Resets.lean ====
section
/-!
DEFINITION. The resets of the whole part: POWER_ON_RESET, RST_N and RESET_RELEASE (R180, R190).
-/
namespace Sys2Proof.Machine

/-- POWER_ON_RESET (R190). It is generated inside the part and holds it in reset also while CLK has not settled. -/
def execPowerOnReset (s : State) : Host.Outcome State Fault Refusal := .next s.enterReset

/-- R190: RST_N takes effect when it is sampled low on at least 16 consecutive rising edges of CLK. A shorter low pulse may
reset the part or may not: a free value (log 5). With CLK not running the pin is not sampled. -/
def State.lowerResetPin (s : State) (lowSamples : Nat) : State :=
  if !s.clkRuns then s
  else if 16 ≤ lowSamples then s.enterReset
  else if Config.shortPulseSeen s.freeIndex then s.useFree.enterReset
  else s.useFree

/-- RST_N (R180, R190). -/
def execRstN (lowSamples : Nat) (s : State) : Host.Outcome State Fault Refusal := .next (s.lowerResetPin lowSamples)

/-- R135, R163, R190: the part leaves reset. The last level seen on TRIG is taken from the input, and a CS_N that is low
already begins no frame, while SDO is driven from then until it rises (R168, log 29). -/
def State.leaveReset (s : State) (trigHigh csLow : Bool) : State :=
  { s with inReset := false, trigLevel := trigHigh, link := { s.link with csHeldLow := csLow, sdoDriven := csLow } }

/-- RESET_RELEASE (R190), at a rising edge of CLK. A part that is not in reset has none to leave. -/
def execResetRelease (trigHigh csLow : Bool) (s : State) : Host.Outcome State Fault Refusal :=
  .next (if s.inReset && s.clkRuns then s.leaveReset trigHigh csLow else s)

end Sys2Proof.Machine
end

