-- ==== Sys2Proof/Machine/TimebaseCommands.lean ====
section
/-!
DEFINITION. The timebase commands (R120 to R123). Their index byte is not looked at (R173).
-/
namespace Sys2Proof.Machine

/-- R120: replace the mode, the line period, L and T, and set the lock state. The counters and the pending load stand. -/
def timebaseConfigReply (f : Frame) (s : State) : Reply :=
  match timebaseOf f s.timebase with
  | none => refuse .badArg s
  | some t => accept (s.setTimebase t)

/-- TIMEBASE_CONFIG (R120). -/
def execTimebaseConfig (f : Frame) (s : State) : Host.Outcome State Fault Refusal :=
  .next (s.takeFrame 0x30 f (timebaseConfigReply f))

/-- TIMEBASE_READ (R123). -/
def execTimebaseRead (f : Frame) (s : State) : Host.Outcome State Fault Refusal :=
  .next (s.takeFrame 0x31 f fun s => report s.timebase.bytes s)

/-- TIMEBASE_LOAD (R122). -/
def execTimebaseLoad (f : Frame) (s : State) : Host.Outcome State Fault Refusal :=
  .next (s.takeFrame 0x32 f fun s => accept (s.setTimebase { s.timebase with pendingLoad := some (f.half 2) }))

end Sys2Proof.Machine
end

