-- ==== Sys2Proof/Machine/Windows.lean ====
section
/-!
DEFINITION. The window commands (R59 to R61) and the launch point commands (R129, R130).
-/
namespace Sys2Proof.Machine

/-- R59, R60: the window is valid and the group it names is RELEASING. -/
def State.windowBusy (s : State) (w : Fin 16) : Bool :=
  (s.window w).valid && (s.group (s.window w).group).state == .releasing

/-- R59: write a window. -/
def windowSetReply (f : Frame) (s : State) (w : Fin 16) : Reply :=
  match windowOf f with
  | none => refuse .badArg s
  | some r =>
    if s.windowBusy w || (s.group r.group).state == .releasing then refuse .busy s
    else accept (s.setWindow w r)

/-- WINDOW_SET (R59). -/
def execWindowSet (f : Frame) (s : State) : Host.Outcome State Fault Refusal :=
  .next (s.takeFrame 0x20 f fun s => withIndex 16 f s (windowSetReply f s))

/-- R60: make a window invalid and keep its other fields. -/
def windowClearReply (s : State) (w : Fin 16) : Reply :=
  if s.windowBusy w then refuse .busy s else accept (s.setWindow w { s.window w with valid := false })

/-- WINDOW_CLEAR (R60). -/
def execWindowClear (f : Frame) (s : State) : Host.Outcome State Fault Refusal :=
  .next (s.takeFrame 0x21 f fun s => withIndex 16 f s (windowClearReply s))

/-- WINDOW_READ (R61). -/
def execWindowRead (f : Frame) (s : State) : Host.Outcome State Fault Refusal :=
  .next (s.takeFrame 0x22 f fun s => withIndex 16 f s fun w => report (s.window w).bytes s)

/-- R129: write a launch point, whatever the state of the groups. -/
def pointSetReply (f : Frame) (s : State) (p : Fin 8) : Reply :=
  match launchPointOf f with
  | none => refuse .badArg s
  | some r => accept (s.setPoint p r)

/-- POINT_SET (R129). -/
def execPointSet (f : Frame) (s : State) : Host.Outcome State Fault Refusal :=
  .next (s.takeFrame 0x28 f fun s => withIndex 8 f s (pointSetReply f s))

/-- POINT_READ (R130). -/
def execPointRead (f : Frame) (s : State) : Host.Outcome State Fault Refusal :=
  .next (s.takeFrame 0x29 f fun s => withIndex 8 f s fun p => report (s.point p).bytes s)

end Sys2Proof.Machine
end

