-- ==== Sys2Proof/Machine/Dispatch.lean ====
section
/-!
DEFINITION. One arm for each command of the opcode table, each one call of its meaning.
-/
namespace Sys2Proof.Machine

def exec (i : Instr) (s : State) : Host.Outcome State Fault Refusal :=
  match i with
  | .nop f => Sys2Proof.Machine.execNop f s
  | .bridgeStatus f => Sys2Proof.Machine.execBridgeStatus f s
  | .softReset f => Sys2Proof.Machine.execSoftReset f s
  | .groupConfig f => Sys2Proof.Machine.execGroupConfig f s
  | .groupOpen f => Sys2Proof.Machine.execGroupOpen f s
  | .groupClose f => Sys2Proof.Machine.execGroupClose f s
  | .groupArm f => Sys2Proof.Machine.execGroupArm f s
  | .groupDisarm f => Sys2Proof.Machine.execGroupDisarm f s
  | .groupLaunch f => Sys2Proof.Machine.execGroupLaunch f s
  | .groupDiscard f => Sys2Proof.Machine.execGroupDiscard f s
  | .groupStatus f => Sys2Proof.Machine.execGroupStatus f s
  | .entryRead f => Sys2Proof.Machine.execEntryRead f s
  | .windowSet f => Sys2Proof.Machine.execWindowSet f s
  | .windowClear f => Sys2Proof.Machine.execWindowClear f s
  | .windowRead f => Sys2Proof.Machine.execWindowRead f s
  | .pointSet f => Sys2Proof.Machine.execPointSet f s
  | .pointRead f => Sys2Proof.Machine.execPointRead f s
  | .timebaseConfig f => Sys2Proof.Machine.execTimebaseConfig f s
  | .timebaseRead f => Sys2Proof.Machine.execTimebaseRead f s
  | .timebaseLoad f => Sys2Proof.Machine.execTimebaseLoad f s
  | .portConfig f => Sys2Proof.Machine.execPortConfig f s
  | .queuePop f => Sys2Proof.Machine.execQueuePop f s
  | .irqConfig f => Sys2Proof.Machine.execIrqConfig f s
  | .unknownCmd code f => Sys2Proof.Machine.execUnknownCmd code f s
  | .frameWithoutCompleteByte bits => Sys2Proof.Machine.execFrameWithoutCompleteByte bits s
  | .powerOnReset => Sys2Proof.Machine.execPowerOnReset s
  | .rstN lowSamples => Sys2Proof.Machine.execRstN lowSamples s
  | .acceptance t => Sys2Proof.Machine.execAcceptance t s
  | .judgement => Sys2Proof.Machine.execJudgement s
  | .transactionResponse => Sys2Proof.Machine.execTransactionResponse s
  | .grant => Sys2Proof.Machine.execGrant s
  | .response tag answer data => Sys2Proof.Machine.execResponse tag answer data s
  | .responseTimeout tag => Sys2Proof.Machine.execResponseTimeout tag s
  | .taking => Sys2Proof.Machine.execTaking s
  | .settlingEnd => Sys2Proof.Machine.execSettlingEnd s
  | .releaseCompletion => Sys2Proof.Machine.execReleaseCompletion s
  | .lineTimerExpiry => Sys2Proof.Machine.execLineTimerExpiry s
  | .fsyncEdge low high => Sys2Proof.Machine.execFsyncEdge low high s
  | .trigEdge low high => Sys2Proof.Machine.execTrigEdge low high s
  | .deadlineExpiry g => Sys2Proof.Machine.execDeadlineExpiry g s
  | .resetRelease trigHigh csLow => Sys2Proof.Machine.execResetRelease trigHigh csLow s

end Sys2Proof.Machine
end

