-- ==== Sys2Proof/Safety.lean ====
section
/-!
DEFINITION. What holds of the part at every instant, in the manual's own terms. Claims about every state take these as
premises where a state that no run reaches could break them.
-/
namespace Sys2Proof.Safety

open Machine

/-! ## The staging store -/

/-- The entries held by all eight groups. -/
abbrev heldEntries (s : State) : Nat := (allGroups.map fun g => (s.group g).entries.length).sum

/-- R31: free entry slots plus the entries held by all eight groups number 1024. -/
abbrev PoolBalance (s : State) : Prop := s.free + heldEntries s = 1024

/-- R30, R34: an entry is at a word address, its mask is 1 to 15, and the bytes outside the mask hold 0x00. -/
abbrev EntryWellFormed (e : Entry) : Prop :=
  e.address.toNat % 4 = 0 ∧ e.mask ≠ 0 ∧ e.data &&& ~~~(maskBits e.mask) = 0

/-- R30, R34, R52: every entry held is well formed, and so is every transaction in the ingress queue. -/
abbrev EntriesWellFormed (s : State) : Prop :=
  (∀ g : GroupId, ∀ e ∈ (s.group g).entries, EntryWellFormed e) ∧ (∀ u ∈ s.ingress, u.request.wellFormed = true)

/-- R32, R35: a group's list is empty in IDLE and within the group's cap, and under COALESCE it holds at most one entry
for each word. -/
abbrev ListWithinCap (r : GroupRecord) : Prop :=
  (r.state = .idle → r.entries = []) ∧ r.entries.length ≤ r.config.cap ∧ 1 ≤ r.config.cap ∧ r.config.cap ≤ 1024 ∧
    (r.config.mode = .coalesce → (r.entries.map Entry.address).Nodup)

/-- R32, R35, for every group. -/
abbrev ListsWithinCap (s : State) : Prop := ∀ g : GroupId, ListWithinCap (s.group g)

/-! ## The group records, the launch queue and the engine -/

/-- R3, R5, R141: which runtime fields of a group record are present in which state, and their ranges. -/
abbrev RecordWellFormed (r : GroupRecord) : Prop :=
  (r.condition.isSome ↔ r.state = .armed ∨ r.state = .pending ∨ r.state = .releasing) ∧
  (r.state ≠ .armed → r.deadlineRemaining = none) ∧
  (r.state = .armed → r.config.deadline = 0 → r.deadlineRemaining = none) ∧
  (r.state = .armed → r.config.deadline ≠ 0 → ∃ n, r.deadlineRemaining = some n ∧ 1 ≤ n ∧ n ≤ r.config.deadline) ∧
  (r.condition = none → r.repeatsRemaining = 0) ∧ r.repeatsRemaining ≤ 255 ∧
  (r.checkCode = none ↔ r.state = .idle ∨ r.state = .opened) ∧
  r.collisionCount ≤ 255 ∧ r.missedCount ≤ 255 ∧
  r.config.repeats ≤ 255 ∧ r.config.deadline ≤ 255

/-- R80: which fields of the release context are present in which engine state. -/
abbrev ContextWellFormed (e : Engine) : Prop :=
  (e.state = .idle → e = {}) ∧
  (e.state ≠ .idle → e.group.isSome ∧ e.kind.isSome) ∧
  (e.cause.isSome ↔ e.state = .stopping) ∧
  (e.copy.isSome ↔ e.write ≠ .none) ∧
  (e.state = .settling → e.write = .none ∧ e.written = 0 ∧ e.failed = 0 ∧ e.cursor = 0) ∧
  (e.state = .stopping → e.write = .issued)

/-- R26, R81, R89: a group is RELEASING exactly while it is the group in hand of a release that SOFT_RESET has not
stopped. -/
abbrev EngineHoldsReleasing (s : State) : Prop :=
  ∀ g : GroupId, (s.group g).state = .releasing ↔ s.engine.group = some g ∧ s.engine.cause ≠ some .softReset

/-- R145: the launch queue holds a group's number exactly while that group is PENDING, and each at most once. -/
abbrev QueueHoldsPending (s : State) : Prop :=
  s.launchQueue.Nodup ∧ ∀ g : GroupId, g ∈ s.launchQueue ↔ (s.group g).state = .pending

/-- R64: a head waits at the fence on a group that is RELEASING. -/
abbrev FenceOnReleasing (s : State) : Prop := ∀ g : GroupId, s.fencedOn = some g → (s.group g).state = .releasing

/-- R15: the launch condition of `a` is AFTER(b). -/
abbrev IsAfter (s : State) (a b : GroupId) : Prop := (s.group a).condition = some (.after b)

/-- R15: no group's AFTER condition names the group itself, and the AFTER conditions of the groups form no cycle. -/
abbrev AfterAcyclic (s : State) : Prop := ∀ g : GroupId, ¬ Relation.TransGen (IsAfter s) g g

/-- The group controller, the launch queue, the release engine and the fence agree. -/
structure Coordinated (s : State) : Prop where
  records : ∀ g : GroupId, RecordWellFormed (s.group g)
  context : ContextWellFormed s.engine
  releasing : EngineHoldsReleasing s
  queue : QueueHoldsPending s
  fence : FenceOnReleasing s

/-! ## The memory port -/

/-- R97: a pass-through request carries a group as its settle mark. -/
abbrev passMarks (g : GroupId) (r : PassRequest) : Bool := r.mark == some g

/-- R95, R97: a tag carries a pass-through request with a group as its settle mark. -/
abbrev tagMarks (g : GroupId) (x : TagState) : Bool :=
  match x with
  | .busy (.passThrough r) _ _ => passMarks g r
  | _ => false

/-- R97: each settle count is the number of requests with that mark that wait or are issued. -/
abbrev SettleCountsRequests (s : State) : Prop :=
  ∀ g : GroupId, s.settleCount g = s.port.waiting.countP (passMarks g) + allTags.countP fun t => tagMarks g (s.tag t)

/-- R95: a tag carries a release write. -/
abbrev tagReleases (x : TagState) : Bool :=
  match x with
  | .busy (.release _) _ _ => true
  | _ => false

/-- R80, R95: the write state is ISSUED exactly while one tag carries a release write, and no more than one ever does. -/
abbrev IssuedHoldsTag (s : State) : Prop :=
  (allTags.countP fun t => tagReleases (s.tag t)) = if s.engine.write = .issued then 1 else 0

/-- R80, R99: the entry that a release write carries to the target on its tag is the engine's write copy. -/
abbrev TagCarriesCopy (s : State) : Prop :=
  ∀ t e timer timeout, s.tag t = .busy (.release e) timer timeout → s.engine.copy = some e

/-- R98: no request waits while a tag is FREE. -/
abbrev NoGrantDue (s : State) : Prop := s.port.freeTag? = none ∨ s.winner = none

/-- R99, R103: the response timeout is 256 to 65535, and so is the timeout of every BUSY tag. -/
abbrev TimeoutsInRange (s : State) : Prop :=
  (256 ≤ s.port.timeout ∧ s.port.timeout ≤ 65535) ∧
    ∀ t : TagId, ∀ r timer timeout, s.tag t = .busy r timer timeout → 256 ≤ timeout ∧ timeout ≤ 65535

/-! ## The timebase and the completion queue -/

/-- R107, R108: the ranges of the timebase, and the lock state NONE exactly in INTERNAL mode. -/
abbrev TimebaseInRange (t : Timebase) : Prop :=
  t.line ≤ 4095 ∧ (t.lock = .none ↔ t.mode = .internal) ∧ 16 ≤ t.linePeriod ∧ t.linePeriod ≤ 65535 ∧
    2 ≤ t.lines ∧ t.lines ≤ 4096 ∧ t.tolerance ≤ 255

/-- R152, R158, R159: the completion queue holds at most 32 records, its counts are right, each RELEASED record has the counts
reported with it (log 27), and IRQ_N has the level of R158. -/
abbrev CompletionsInRange (s : State) : Prop :=
  s.completions.records.length ≤ 32 ∧ s.completions.lost ≤ 255 ∧
    s.completions.urgent = s.completions.records.countP (fun r => r.kind.isUrgent) ∧
    s.reported.length = s.completions.records.countP (fun r => r.kind = .released) ∧
    (1 ≤ s.irq.threshold ∧ s.irq.threshold ≤ 32) ∧ s.irqLow = irqLevel s.irq s.completions

/-- R162, R168, R190: between two frames the receiver is not selected and holds no bits of a byte, and SDO is driven only
while a CS_N that was low when the part left reset has not risen; in reset it is not driven, IRQ_N is released, and no
request waits or is issued at the memory port. -/
abbrev OutputsQuiet (s : State) : Prop :=
  (s.link.selected = false ∧ s.link.partialBits = []) ∧ s.link.sdoDriven = s.link.csHeldLow ∧
    (s.inReset = true → s.link.sdoDriven = false ∧ s.irqLow = false ∧ s.port.waiting = [] ∧ ∀ t : TagId, s.tag t = .free)

/-- R127: the line value of every launch point is 0 to 4095. -/
abbrev PointsInRange (s : State) : Prop := ∀ p : Fin 8, (s.point p).lineValue ≤ 4095

/-- R57, R59: the base and the limit of every window are multiples of 64, and the limit is not below the base. -/
abbrev WindowsInRange (s : State) : Prop :=
  ∀ w : Fin 16, (s.window w).base.toNat % 64 = 0 ∧ (s.window w).limit.toNat % 64 = 0 ∧
    (s.window w).base.toNat ≤ (s.window w).limit.toNat

/-! ## The ingress queue -/

/-- R52, R54, R56: at most 8 places; a WAITING transaction has no results, a DISPATCHED one has one for each beat; and no
transaction is DISPATCHED behind a WAITING one. -/
abbrev IngressInOrder (s : State) : Prop :=
  s.ingress.length ≤ 8 ∧
    (∀ u ∈ s.ingress, if u.dispatched then u.results.length = u.request.beatCount else u.results = []) ∧
    s.ingress.Pairwise fun u v => v.dispatched = true → u.dispatched = true

/-- R52: the model's names of the transactions are distinct and all given out already (log 14). -/
abbrev IngressNamed (s : State) : Prop := (∀ u ∈ s.ingress, u.id < s.nextId) ∧ (s.ingress.map Ingress.id).Nodup

/-- R63, R65, R83: while the engine is DRAINING, no request with the settle mark of its group is unfinished. -/
abbrev NoMarkedRequestInDraining (s : State) : Prop :=
  ∀ g : GroupId, s.engine.state = .draining → s.engine.group = some g → s.settleCount g = 0

/-- R80, R84: a release write asked for or issued carries the entry that stands next in the list of the group being
released, unless SOFT_RESET has stopped that release. -/
abbrev WriteCarriesHeldEntry (s : State) : Prop :=
  s.engine.write ≠ .none → s.engine.cause ≠ some .softReset → s.nextEntry = s.engine.copy

/-! ## The terms in which claims about frames are stated -/

/-- R163, R190: the part takes events: it is out of reset, and CLK runs. -/
abbrev TakesEvents (s : State) : Prop := s.inReset = false ∧ s.clkRuns = true

/-- R162, R163: the control link takes frames: the part takes events, CS_N has been high since it left reset, and the receiver
is not selected. -/
abbrev LinkReady (s : State) : Prop := TakesEvents s ∧ s.link.csHeldLow = false ∧ s.link.selected = false

/-- R162, R167, R168: the control link after a frame whose byte 0 is `code` and whose command has left `result` in the
result buffer. -/
abbrev linkAfter (s : State) (code : Byte) (f : Frame) (result : List Byte) : ControlLink :=
  { s.link with
    selected := false
    bitCount := 8 * (f.bytes.length + 1) + f.extraBits.val
    received := (code :: f.bytes).take ((frameLength code).getD 1)
    partialBits := []
    result := result
    sdo := shiftOut s.link.result (8 * (f.bytes.length + 1) + f.extraBits.val)
    sdoDriven := false }

/-- The state that a frame taken in `s` leaves, when its command has made `t` of the rest of the part. -/
abbrev afterFrame (s t : State) (code : Byte) (f : Frame) (result : List Byte) : State :=
  { t with link := linkAfter s code f result }

/-- R182: a field of two bytes, most significant byte first. -/
abbrev bigEndian16 (n : Nat) : List Byte := [BitVec.ofNat 8 (n / 256), BitVec.ofNat 8 n]

/-- R182: a field of four bytes, most significant byte first. -/
abbrev bigEndian32 (n : Nat) : List Byte :=
  [BitVec.ofNat 8 (n / 16777216), BitVec.ofNat 8 (n / 65536), BitVec.ofNat 8 (n / 256), BitVec.ofNat 8 n]

/-- R182: a flag or a presence byte. -/
abbrev yesNo (b : Bool) : Byte := if b then 0x01 else 0x00

/-- R9: group `a` is ARMED with the condition AFTER(b): it is a successor of `b`. -/
abbrev IsSuccessor (s : State) (a b : GroupId) : Prop :=
  (s.group a).state = .armed ∧ (s.group a).condition = some (.after b)

/-- R9: no group is a successor of `g`. -/
abbrev NoSuccessor (s : State) (g : GroupId) : Prop := ∀ k : GroupId, ¬ IsSuccessor s k g

/-- R9: `k` is broken when `g` leaves its armed states other than by completion. -/
abbrev IsBrokenBy (s : State) (g k : GroupId) : Prop := k ≠ g ∧ Relation.TransGen (IsSuccessor s) k g

/-- R141: the deadline loaded at an entry to ARMED. -/
abbrev freshDeadline (c : GroupConfig) : Option Nat := if c.deadline = 0 then none else some c.deadline

/-- R153: a record stored at the end of the queue with the lost counter, or dropped and counted when the queue holds 32;
and IRQ_N as R158 gives it. -/
abbrev withRecord (s : State) (r : CompletionRecord) : State :=
  let q : CompletionQueue :=
    if s.completions.records.length < 32 then
      { records := s.completions.records ++ [{ r with lost := s.completions.lost }]
        lost := 0
        urgent := s.completions.urgent + if r.kind.isUrgent then 1 else 0 }
    else { s.completions with lost := min (s.completions.lost + 1) 255 }
  { s with completions := q, irqLow := irqLevel s.irq q }

/-- R125, R151: a record of the given kind for a group, stamped with the frame and line of the timebase, with no report
and all flags clear. -/
abbrev plainRecord (s : State) (kind : RecordKind) (group : Option GroupId) : CompletionRecord :=
  { kind, group, report := none, frame := s.timebase.frame, line := s.timebase.line, flags := {}, lost := 0 }

/-- R125: a record of an ended release of `g`. -/
abbrev releaseRecord (s : State) (kind : RecordKind) (g : GroupId) (report : ReleaseReport) (flags : RecordFlags) :
    CompletionRecord :=
  { kind, group := some g, report := some report, frame := s.timebase.frame, line := s.timebase.line, flags, lost := 0 }

/-- R98: `t` is the lowest-numbered FREE tag of the port. -/
abbrev IsLowestFree (p : MemoryPort) (t : TagId) : Prop := p.tags[t] = .free ∧ ∀ u : TagId, u < t → p.tags[u] ≠ .free

/-- R98: no tag of the port is FREE. -/
abbrev NoFreeTag (p : MemoryPort) : Prop := ∀ t : TagId, p.tags[t] ≠ .free

/-- R58: window `i` governs the address: it is valid and covers it, and no lower-numbered valid window does. -/
abbrev Governs (s : State) (address : Word) (i : Fin 16) : Prop :=
  ((s.window i).valid = true ∧ (s.window i).base.toNat ≤ address.toNat ∧
      address.toNat ≤ (s.window i).limit.toNat + 63) ∧
    ∀ j : Fin 16, j < i → ¬ ((s.window j).valid = true ∧ (s.window j).base.toNat ≤ address.toNat ∧
      address.toNat ≤ (s.window j).limit.toNat + 63)

/-- R58: no window governs the address. -/
abbrev NotGoverned (s : State) (address : Word) : Prop :=
  ∀ j : Fin 16, ¬ ((s.window j).valid = true ∧ (s.window j).base.toNat ≤ address.toNat ∧
    address.toNat ≤ (s.window j).limit.toNat + 63)

/-- R52: `u` is the head: the oldest WAITING transaction, with only DISPATCHED ones before it; and no other transaction
has its name. -/
abbrev IsHead (s : State) (u : Ingress) (before behind : List Ingress) : Prop :=
  s.ingress = before ++ u :: behind ∧ u.dispatched = false ∧ (∀ v ∈ before, v.dispatched = true) ∧
    ∀ v ∈ before ++ behind, v.id ≠ u.id

/-- R52: the word address of beat `k`. -/
abbrev beatAt (t : Transaction) (k : Nat) : Word := t.start + BitVec.ofNat 32 (4 * k)

/-- R55: the first and the last beat lie in one aligned 1 KiB block. -/
abbrev InOneBlock (t : Transaction) : Prop :=
  t.start.toNat / 1024 = (beatAt t (t.beatCount - 1)).toNat / 1024

/-- R63: the group that governs beat `k` is RELEASING. -/
abbrev BeatFenced (s : State) (t : Transaction) (k : Nat) : Prop :=
  ∃ i : Fin 16, Governs s (beatAt t k) i ∧ (s.group (s.window i).group).state = .releasing

/-- R63: the fence holds for the transaction. -/
abbrev Fenced (s : State) (t : Transaction) : Prop := ∃ k, k < t.beatCount ∧ BeatFenced s t k

/-- R69: the requester passes the filter of a group. -/
abbrev PassesFilter (c : GroupConfig) (requester : Fin 16) : Prop := c.filter = none ∨ c.filter = some requester

/-- R71: an overflow of a beat captured for `g`. -/
abbrev overflowNoted (s : State) (g : GroupId) : State :=
  let u := s.setGroup g { s.group g with overflowed := true, overflowReported := true }
  if (s.group g).overflowReported then u else withRecord u (plainRecord s .overflow (some g))

/-- R97: the settle counts after a request with the given mark has been handed over. -/
abbrev settleRaised (p : MemoryPort) (mark : Option GroupId) : Vector Nat 8 :=
  match mark with
  | none => p.settle
  | some g => p.settle.set g.val (p.settle[g] + 1)

/-- R97: the settle counts after a request with the given mark has ended. -/
abbrev settleLowered (p : MemoryPort) (mark : Option GroupId) : Vector Nat 8 :=
  match mark with
  | none => p.settle
  | some g => p.settle.set g.val (p.settle[g] - 1)

/-- R56, R76, R77, R101: the result of a pass-through beat from what the memory port returns. -/
abbrev passResult (r : PassRequest) (answer : Answer) (data : Word) : BeatResult :=
  if answer = .error then .finished .error 0
  else if r.access ≠ .read then .finished .okay 0
  else
    match r.overlay with
    | none => .finished .okay data
    | some o => .finished .okay (mergeBytes o.mask o.data data)

/-- R77: the part after the pass-through request `r` has ended with the given result. -/
abbrev passEnded (s : State) (r : PassRequest) (result : BeatResult) : State :=
  { s with
    ingress := s.ingress.map fun u => if u.id = r.id then { u with results := u.results.set r.beat result } else u
    port := { s.port with settle := settleLowered s.port r.mark } }

/-- R95: the part with tag `t` in the given state. -/
abbrev withTag (s : State) (t : TagId) (x : TagState) : State :=
  { s with port := { s.port with tags := s.port.tags.set t.val x } }

/-- R99: the part after a release write of `e` has been issued on tag `t` by an engine whose context, but for the write, is
`c`. -/
abbrev writeIssued (s : State) (c : Engine) (t : TagId) (e : Entry) : State :=
  { s with
    port := { s.port with tags := s.port.tags.set t.val (.busy (.release e) 0 s.port.timeout), lastGranted := .release }
    engine := { c with write := .issued, copy := some e } }

/-- R95, R101, R100: the command ends the request of tag `t` with `answer`, and the tag is left in the given state: a
response frees it, a timeout abandons it. -/
abbrev EndsRequest (c : Instr) (t : TagId) (answer : Answer) (x : TagState) : Prop :=
  (∃ data, c = .response t answer data) ∧ x = .free ∨ c = .responseTimeout t ∧ answer = .error ∧ x = .abandoned

/-- R81, R82: the release context right after the taking of `g`. -/
abbrev contextTaken (s : State) (g : GroupId) : Engine :=
  { state := .settling, group := some g, kind := some (if (s.group g).repeatsRemaining = 0 then .oneShot else .repeating)
    written := 0, failed := 0, cursor := 0, write := .none, copy := none, cause := none }

/-- R26, R81: `g`, the head of the launch queue, has been taken out of it and is RELEASING. -/
abbrev headTaken (s : State) (g : GroupId) (rest : List GroupId) : State :=
  { s.setGroup g { s.group g with state := .releasing } with launchQueue := rest }

/-- R27: no group is fired by a completion of `g`: none has the condition AFTER(g), and `g` itself does not return to ARMED
with IMMEDIATE. -/
abbrev FiresNothing (s : State) (g : GroupId) : Prop :=
  (∀ k : GroupId, (s.group k).condition ≠ some (.after g)) ∧
    ((s.group g).repeatsRemaining = 0 ∨ (s.group g).condition ≠ some .immediate)

/-- R4, R27: the record of `g` after a completed release with the given counts, before any group is fired. -/
abbrev completedRecord (r : GroupRecord) (written failed : Nat) : GroupRecord :=
  let ended := { r with
    sequence := r.sequence + 1, lastWritten := written, lastFailed := failed
    overflowed := false, collided := false, forced := false, missed := false, collisionCount := 0, missedCount := 0 }
  if r.repeatsRemaining = 0 then
    { ended with state := .idle, entries := [], condition := none, deadlineRemaining := none, checkCode := none }
  else
    { ended with
      state := .armed
      repeatsRemaining := if r.repeatsRemaining = 255 then 255 else r.repeatsRemaining - 1
      deadlineRemaining := freshDeadline r.config }

/-- R151: the flags of the RELEASED or RELEASE_FAULT record of a group. -/
abbrev flagsOf (r : GroupRecord) : RecordFlags :=
  ⟨r.forced, r.missed, r.collided, r.overflowed, decide (0 < r.repeatsRemaining)⟩

/-- R5, R24, R133, R140: the missed-launch count and the collision count of `g` have been reported with its RELEASED record,
if the queue has stored that (log 27). -/
abbrev countsReported (s : State) (g : GroupId) : List ReportedCounts :=
  if s.completions.records.length < 32 then s.reported ++ [⟨(s.group g).missedCount, (s.group g).collisionCount⟩]
  else s.reported

/-- R27, R88, R89: the part after the release of `g` has completed with nothing to fire: a one-shot release has its last
entries freed, its RELEASED record is queued, its counts are reported, the engine is IDLE and the fence on `g` is lifted. -/
abbrev releaseCompleted (s : State) (g : GroupId) (written failed : Nat) : State :=
  { withRecord (s.setGroup g (completedRecord (s.group g) written failed))
      (releaseRecord s .released g ⟨(s.group g).sequence + 1, written, failed⟩ (flagsOf (s.group g))) with
    reported := countsReported s g
    free := if (s.group g).repeatsRemaining = 0 then s.free + (s.group g).entries.length else s.free
    engine := {}
    fencedOn := if s.fencedOn = some g then none else s.fencedOn }

/-- The commands of the list, taken one after another, lead from `s` to `t`. -/
def Runs : List Instr → State → State → Prop
  | [], s, t => t = s
  | c :: rest, s, t => ∃ u, exec c s = .next u ∧ Runs rest u t

/-- R98: one grant has been made for each FREE tag while a request waits: there are four tags. -/
abbrev Granted (s t : State) : Prop := Runs [.grant, .grant, .grant, .grant] s t

/-- R100, R102: tag `t` has timed out. The timeout that makes all four tags ABANDONED has queued DOWNSTREAM_STUCK. -/
abbrev timedOut (s : State) (t : TagId) : State :=
  let u := withTag s t .abandoned
  if ∀ v : TagId, u.tag v = .abandoned then withRecord u (plainRecord u .downstreamStuck none) else u

/-- R98, R100, R101: the command ends the request of tag `t` with `answer`. The block that made it acts on `pre`. What it
leaves becomes `post` of it, and then the tags are granted: a tag freed by a response is FREE only then, and a tag that has
timed out is ABANDONED at once. -/
abbrev EndsRequestIn (s : State) (c : Instr) (t : TagId) (answer : Answer) (data : Word) (pre : State)
    (post : State → State) : Prop :=
  c = .response t answer data ∧ pre = s ∧ (post = fun u => withTag u t .free) ∨
    c = .responseTimeout t ∧ answer = .error ∧ pre = timedOut s t ∧ post = id

/-- R84: the walk over the list of `g`, the group in hand, stands at the entry `e`. -/
abbrev StandsAt (s : State) (g : GroupId) (e : Entry) : Prop :=
  s.engine.kind = some .oneShot ∧ (s.group g).entries[0]? = some e ∨
    s.engine.kind = some .repeating ∧ (s.group g).entries[s.engine.cursor]? = some e

/-- R84, R88: the list of `g`, the group in hand, has been walked to its end. -/
abbrev WalkedToEnd (s : State) (g : GroupId) : Prop :=
  s.engine.kind = some .oneShot ∧ (s.group g).entries = [] ∨
    s.engine.kind = some .repeating ∧ (s.group g).entries.length ≤ s.engine.cursor

/-- R64, R89: the engine has become IDLE, and the fence on `g` has lifted. -/
abbrev released (s : State) (g : GroupId) : State :=
  { s with engine := {}, fencedOn := if s.fencedOn = some g then none else s.fencedOn }

/-- R83, R85 to R88, R91: the end of the request with `answer` ends the release in hand: the engine stops, its write fails
under ABORT, its write was the last of the list, or SETTLING ends with an empty list. -/
abbrev EndsRelease (s : State) (request : PortRequest) (answer : Answer) : Prop :=
  ∃ g, s.engine.group = some g ∧
    match request with
    | .release _ =>
      s.engine.state = .stopping ∨
        s.engine.state = .draining ∧
          (answer = .error ∧ (s.group g).config.errorPolicy = .abort ∨ s.engine.kind = none ∨
            s.engine.kind = some .oneShot ∧ (s.group g).entries.length ≤ 1 ∨
            s.engine.kind = some .repeating ∧ (s.group g).entries.length ≤ s.engine.cursor + 1)
    | .passThrough r =>
      s.engine.state = .settling ∧ (settleLowered s.port r.mark)[g] = 0 ∧ (s.engine.kind = none ∨ WalkedToEnd s g)

/-- R54: the event ends the release in hand, so it is not taken between two beats of a judgement. -/
abbrev Barred (s : State) (event : PortEvent) : Prop :=
  match event with
  | .response t answer _ => ∃ r n m, s.tag t = .busy r n m ∧ EndsRelease s r answer
  | .timeout t => ∃ r n m, s.tag t = .busy r n m ∧ EndsRelease s r .error

/-- R100, R101: the row of the table that stands for the event. -/
abbrev rowOf (event : PortEvent) : Instr :=
  match event with
  | .response t answer data => .response t answer data
  | .timeout t => .responseTimeout t

/-- R54, R70: the events of the list have been taken one after another between two beats, but for those that R54 bars there. -/
def TakenBetween : List PortEvent → State → State → Prop
  | [], s, t => t = s
  | e :: rest, s, t =>
    ∃ u, (Barred s e → u = s) ∧ (¬ Barred s e → exec (rowOf e) s = .next u) ∧ TakenBetween rest u t

/-- R54, R70: what happens between two beats of the command JUDGEMENT. Which events of the memory port come is a free value
(log 30); while every tag is FREE none does. -/
abbrev BetweenBeats (s t : State) : Prop :=
  if ∀ v : TagId, s.tag v = .free then t = s
  else TakenBetween (Config.portEventsBetweenBeats s.freeIndex) { s with freeIndex := s.freeIndex + 1 } t

/-- Nothing happens between two beats. -/
abbrev NothingBetween (s t : State) : Prop := t = s

/-- R54: a beat of the transaction `name`, decided with the given state and result, has been dispatched. -/
abbrev beatDispatched (decided : State × BeatResult) (name : Nat) : State :=
  { decided.1 with
    ingress := decided.1.ingress.map fun v => if v.id = name then { v with results := v.results ++ [decided.2] } else v }

/-- R54: the head `u` has been judged through. Beat `k` is decided in `before k` and dispatched, which leaves `after (k + 1)`;
from `after k` to `before k` nothing happens for beat 0, and what `between` says for a later beat. After the last beat `u`
is DISPATCHED. -/
abbrev BeatsDecided (between : State → State → Prop) (s : State) (u : Ingress) (t : State) : Prop :=
  ∃ before after : Nat → State, after 0 = s ∧ before 0 = s ∧
    (∀ k, 0 < k → k < u.request.beatCount → between (after k) (before k)) ∧
    (∀ beats k b, u.request.transfer = .write beats → beats[k]? = some b →
      after (k + 1) = beatDispatched ((before k).decideWrite u.id u.request k b) u.id) ∧
    (∀ n k, u.request.transfer = .read n → k < n →
      after (k + 1) = beatDispatched ((before k).decideRead u.id u.request k) u.id) ∧
    t = { after u.request.beatCount with
      ingress := (after u.request.beatCount).ingress.map fun v =>
        if v.id = u.id then { v with dispatched := true } else v }

/-- R64, R89, R98: what follows in the same event when a release has ended and left `s`. Judgements of heads may come first,
when a transaction waits and the launch queue holds a group: how many is a free value (log 4), and nothing comes between two
beats of them (log 30). Then the tag concerned is as `post` says, the IDLE engine takes the head of the launch queue, if it
holds one, and the tags are granted. -/
abbrev GoesOn (s : State) (post : State → State) (t : State) : Prop :=
  ∃ (n : Nat) (u : State), n ≤ 8 ∧
    (if (∃ v ∈ s.ingress, v.dispatched = false) ∧ s.launchQueue ≠ [] then
      u = (fun v => State.judge v id)^[n] { s with freeIndex := s.freeIndex + 1 }
    else u = s) ∧
    Runs [.taking, .grant, .grant, .grant, .grant] (post u) t

/-- R99: the response timer of every BUSY tag has advanced by one CLK period. -/
abbrev timersAdvanced (s : State) : State :=
  { s with port := { s.port with
    tags := s.port.tags.map fun x =>
      match x with
      | .busy r timer timeout => .busy r (timer + 1) timeout
      | .free => .free
      | .abandoned => .abandoned } }

/-- R100: tag `t` is BUSY and its timer has reached its timeout. -/
abbrev TimerDue (s : State) (t : TagId) : Prop := ∃ r timer timeout, s.tag t = .busy r timer timeout ∧ timeout ≤ timer

/-- R100: tag `t` has timed out, if its timer is due. -/
abbrev TimeoutTaken (s : State) (t : TagId) (u : State) : Prop :=
  (TimerDue s t → exec (.responseTimeout t) s = .next u) ∧ (¬ TimerDue s t → u = s)

/-- R109, R121: a TBCLK period has ended: the line timer has advanced by one, and expires when it has reached the line period
or already stood above it. -/
abbrev TbclkPeriodTaken (s u : State) : Prop :=
  ∃ p, p = ({ s with timebase := { s.timebase with timer := s.timebase.timer + 1 } } : State) ∧
    (p.timebase.timer < p.timebase.linePeriod → u = p) ∧
    (p.timebase.linePeriod ≤ p.timebase.timer → exec .lineTimerExpiry p = .next u)

/-- R9, R18: the record of a group that has left its armed states for CLOSED. -/
abbrev closedRecord (r : GroupRecord) : GroupRecord :=
  { r with state := .closed, condition := none, deadlineRemaining := none, repeatsRemaining := 0 }

/-- R8: the record of a group that has gone to IDLE. -/
abbrev emptiedRecord (r : GroupRecord) : GroupRecord :=
  { r with
    state := .idle, entries := [], condition := none, deadlineRemaining := none, repeatsRemaining := 0, checkCode := none }

/-- R9, R154: the successors of `g` have been broken, transitively: each has gone to CLOSED with a CHAIN_BROKEN record, all of
them in ascending group number (DESIGN CHOICE where one is broken by another's leaving, log 31). Nothing else has changed. -/
abbrev Broke (s : State) (g : GroupId) (t : State) : Prop :=
  ∃ broken : List GroupId, broken.Pairwise (· < ·) ∧ (∀ k, k ∈ broken ↔ IsBrokenBy s g k) ∧
    t = broken.foldl
      (fun u k => withRecord (u.setGroup k (closedRecord (u.group k))) (plainRecord u .chainBroken (some k))) s

/-- R4, R28: the release of `g` has faulted with the given written count, before its successors are broken. -/
abbrev faultRecorded (s : State) (g : GroupId) (written : Nat) : State :=
  withRecord
    (s.setGroup g { s.group g with
      state := .faulted, condition := none, deadlineRemaining := none, repeatsRemaining := 0
      sequence := (s.group g).sequence + 1, lastWritten := written, lastFailed := 1 })
    (releaseRecord s .releaseFault g ⟨(s.group g).sequence + 1, written, 1⟩ (flagsOf (s.group g)))

/-- R4, R29: the release of `g` has been stopped by a discard with the given counts, before its successors are broken. -/
abbrev discardRecorded (s : State) (g : GroupId) (written failed : Nat) : State :=
  { withRecord
      (s.setGroup g { emptiedRecord (s.group g) with
        sequence := (s.group g).sequence + 1, lastWritten := written, lastFailed := failed })
      (releaseRecord s .discarded g ⟨(s.group g).sequence + 1, written, failed⟩ {}) with
    free := s.free + (s.group g).entries.length }

/-- R25: the deadline of `g` has been cancelled, before its successors are broken. -/
abbrev cancelRecorded (s : State) (g : GroupId) : State :=
  { withRecord (s.setGroup g (emptiedRecord (s.group g))) (plainRecord s .deadlineCancelled (some g)) with
    free := s.free + (s.group g).entries.length }

/-- R24: the record of a group after a firing notice. -/
abbrev firedRecord (r : GroupRecord) : GroupRecord :=
  if r.state = .armed then { r with state := .pending, deadlineRemaining := none }
  else if r.state = .pending ∨ r.state = .releasing then
    { r with missed := true, missedCount := min (r.missedCount + 1) 255 }
  else r

/-- R116, R117: a record of the timebase, stamped with its counters. -/
abbrev syncRecord (tb : Timebase) (kind : RecordKind) : CompletionRecord :=
  { kind, group := none, report := none, frame := tb.frame, line := tb.line, flags := {}, lost := 0 }

/-- R110: the counters after a frame mark. -/
abbrev frameMarked (tb : Timebase) : Timebase :=
  { tb with
    frame := match tb.pendingLoad with
      | some v => v
      | none => tb.frame + 1
    pendingLoad := none
    line := 0
    timer := 0 }

/-- R111: the line at which the line timer ends a frame by itself: the line counter plus one is at or above the frame limit
of the lock state. -/
abbrev AtFrameLimit (tb : Timebase) : Bool :=
  match tb.lock with
  | .none => decide (tb.lines ≤ tb.line + 1)
  | .search => false
  | .locked => decide (min (tb.lines + tb.tolerance) 4096 ≤ tb.line + 1)
  | .flywheel => decide (tb.lines ≤ tb.line + 1)

/-- R109, R110, R116: the timebase after an expiry of the line timer. -/
abbrev Expired (tb after : Timebase) : Prop :=
  (AtFrameLimit tb → after = { frameMarked tb with lock := if tb.lock = .locked then .flywheel else tb.lock }) ∧
  (¬ AtFrameLimit tb → tb.line = 4095 → after = { tb with timer := 0 }) ∧
  (¬ AtFrameLimit tb → tb.line ≠ 4095 → after = { tb with line := tb.line + 1, timer := 0 })

/-- R25: the expiry notice of `g` acts: `g` is ARMED in the wait in which its deadline has come to 0 (log 8). -/
abbrev Expires (s : State) (g : GroupId) : Prop :=
  (s.group g).state = .armed ∧ (s.group g).deadlineRemaining = some 0

/-- R138: the record of a group after the first step of a frame mark that does not fire it. -/
abbrev loweredRecord (r : GroupRecord) : GroupRecord :=
  if r.state = .armed then { r with deadlineRemaining := r.deadlineRemaining.map fun n => n - 1 } else r

/-- R24, R25, R138: the notice that a mark has for `g` has been acted on: a firing notice when the mark fires its condition,
and otherwise an expiry notice when its deadline has come to 0. -/
abbrev NoticeTaken (fires : Prop) (s : State) (g : GroupId) (t : State) : Prop :=
  (fires → t = { s.setGroup g (firedRecord (s.group g)) with
    launchQueue := if (s.group g).state = .armed then s.launchQueue ++ [g] else s.launchQueue }) ∧
  (¬ fires → ¬ Expires s g → t = s) ∧
  (¬ fires → Expires s g → (s.group g).config.deadlineAction = .force →
    t = { s.setGroup g { s.group g with state := .pending, deadlineRemaining := none, forced := true } with
          launchQueue := s.launchQueue ++ [g] }) ∧
  (¬ fires → Expires s g → (s.group g).config.deadlineAction = .cancel → Broke (cancelRecorded s g) g t)

/-- R113, R135, R190: a rise after `low` samples low and before `high` samples high is seen as an edge for certain: both levels
were sampled at least twice, or the low one fewer times and the rise before it was missed. -/
abbrev EdgeCertain (missed : Bool) (low high : Nat) : Prop := 2 ≤ low ∧ 2 ≤ high ∨ low < 2 ∧ missed = true

/-- R113: a rise of FSYNC has been missed or not. -/
abbrev fsyncNoted (s : State) (missed : Bool) : State :=
  { s with missedEdges := { s.missedEdges with fsync := missed } }

/-- R126, R135: a rise of TRIG has been missed or not, and the last level seen is that of the last samples. -/
abbrev trigNoted (s : State) (low high : Nat) (missed : Bool) : State :=
  { s with
    missedEdges := { s.missedEdges with trig := missed }
    trigLevel := if 0 < high then true else if 0 < low then false else s.trigLevel }

/-- R128: the launch point fires on the mark. -/
abbrev PointFires (p : LaunchPoint) (m : Mark) : Prop :=
  p.enabled = true ∧ m.frame &&& p.frameMask = p.frameValue &&& p.frameMask ∧
    (if p.lineCheck then m.line = p.lineValue else m.kind = .frame)

/-- R133, R134, R138: the mark fires the launch condition of the group. -/
abbrev MarkFires (s : State) (m : Mark) (g : GroupId) : Prop :=
  (∃ p, (s.group g).condition = some (.point p) ∧ PointFires (s.point p) m) ∨
    (m.kind = .frame ∧ (s.group g).condition = some .nextFrame)

end Sys2Proof.Safety
end

