-- ==== Sys2Proof/Certificates/Slice0/Obligations.lean ====
section
/-!
DEFINITION. The statements for the provers, in the order of OBLIGATIONS.json: the step and the resets, the control link, the
commands of the catalogue, the system port, the memory port, the release engine, the timebase and the launch unit, and the
invariants that every step keeps.
-/

open Sys2Proof Sys2Proof.Machine Sys2Proof.Safety

/-! ## The step and the resets -/

/-- A step takes the command at the front of the queue and runs it with the queue's rest. -/
def Obligations.StepTakesFrontCommand : Prop :=
  ∀ (c : Instr) (rest : List Instr) (s : State), s.pending = c :: rest → step s = exec c { s with pending := rest }

/-- The model's choice (log 6): a step on an empty queue is one CLK period, in which CLK runs or stands still (R190: a free
value, log 28). In reset, and while CLK stands still, nothing else happens. Otherwise these happen, in this order: an IDLE
engine makes the taking put off to this CLK edge (R89); the timer of every BUSY tag advances by one (R99); each tag whose
timer has reached its timeout times out (R100), in ascending tag number; and when a TBCLK period ends (R190: a free value)
the line timer advances by one (R109) and expires when it has reached the line period, or already stood above it (R121).
With no group to take, no timer about to reach its timeout and the line timer not about to expire, in one line: the timers
advance and nothing else changes. -/
def Obligations.EmptyQueueIsOneClockPeriod : Prop :=
  (∀ s : State, s.pending = [] → s.inReset = true →
    step s = .next { s with clkRuns := Config.clkRuns s.freeIndex, freeIndex := s.freeIndex + 1 }) ∧
  (∀ s : State, s.pending = [] → s.inReset = false → (s.engine.state ≠ .idle ∨ s.launchQueue = []) →
    (∀ t r n m, s.tag t = .busy r n m → n + 1 < m) → s.timebase.timer + 1 < s.timebase.linePeriod →
    step s = .next
      (if Config.clkRuns s.freeIndex then { timersAdvanced s with
        timebase := { s.timebase with
          timer := if Config.tbclkPeriodEnds (s.freeIndex + 1) then s.timebase.timer + 1 else s.timebase.timer }
        clkRuns := true
        freeIndex := s.freeIndex + 2 }
      else { s with clkRuns := false, freeIndex := s.freeIndex + 1 })) ∧
  (∀ s : State, s.pending = [] → s.inReset = false →
    ∃ (a v : State) (u : Fin 5 → State),
      exec .taking { s with clkRuns := true, freeIndex := s.freeIndex + 1 } = .next a ∧ u 0 = timersAdvanced a ∧
      (∀ t : TagId, TimeoutTaken (u t.castSucc) t (u t.succ)) ∧
      (if Config.tbclkPeriodEnds (u 4).freeIndex then TbclkPeriodTaken { u 4 with freeIndex := (u 4).freeIndex + 1 } v
        else v = { u 4 with freeIndex := (u 4).freeIndex + 1 }) ∧
      step s = .next (if Config.clkRuns s.freeIndex then v else { s with clkRuns := false, freeIndex := s.freeIndex + 1 }))

/-- R6, R31, R52, R57, R80, R95, R97, R98, R103, R107, R127, R148, R152, R159, R163, R167: the values after power-on reset
and RST_N. State.reset is the part that has just left reset: that SDO is not driven then is R168 with a CS_N that is
high (log 9), and that CLK runs is no value that a reset gives but the model's (log 9, DEDUCED from R190: the part
leaves reset at a rising edge of CLK; ResetsClearThePart says that a reset keeps whether CLK runs). -/
def Obligations.ResetValues : Prop :=
  (∀ g : GroupId,
    (State.reset.group g).config = ⟨.coalesce, 128, .refuse, none, .abort, 0, 0, .cancel⟩ ∧
    (State.reset.group g).state = .idle ∧ (State.reset.group g).entries = [] ∧
    (State.reset.group g).condition = none ∧ (State.reset.group g).deadlineRemaining = none ∧
    (State.reset.group g).repeatsRemaining = 0 ∧ (State.reset.group g).checkCode = none ∧
    (State.reset.group g).sequence = 0 ∧ (State.reset.group g).lastWritten = 0 ∧
    (State.reset.group g).lastFailed = 0 ∧ (State.reset.group g).overflowed = false ∧
    (State.reset.group g).collided = false ∧ (State.reset.group g).forced = false ∧
    (State.reset.group g).missed = false ∧ (State.reset.group g).collisionCount = 0 ∧
    (State.reset.group g).missedCount = 0 ∧ (State.reset.group g).overflowReported = false) ∧
  State.reset.free = 1024 ∧ State.reset.ingress = [] ∧
  (∀ w : Fin 16, State.reset.window w = ⟨false, 0, 0, 0, .pass, .pass⟩) ∧
  State.reset.engine = ⟨.idle, none, none, 0, 0, 0, .none, none, none⟩ ∧
  (∀ t : TagId, State.reset.tag t = .free) ∧ (∀ g : GroupId, State.reset.settleCount g = 0) ∧
  State.reset.port.waiting = [] ∧ State.reset.port.lastGranted = .passThrough ∧ State.reset.port.timeout = 4096 ∧
  State.reset.timebase = ⟨0, 0, 0, .internal, .none, none, 1000, 1125, 8⟩ ∧
  (∀ p : Fin 8, State.reset.point p = ⟨false, 0, 0, false, 0⟩) ∧ State.reset.launchQueue = [] ∧
  State.reset.completions = ⟨[], 0, 0⟩ ∧ State.reset.irq = ⟨true, 1, false⟩ ∧ State.reset.irqLow = false ∧
  State.reset.clkRuns = true ∧ State.reset.link.sdoDriven = false ∧
  State.reset.link.selected = false ∧ State.reset.link.bitCount = 0 ∧ State.reset.link.received = [] ∧
  State.reset.link.partialBits = [] ∧ State.reset.link.result = [0x00]

/-- R180, R190: POWER_ON_RESET, and RST_N sampled low at least 16 times in a row, put the whole part into the state after
reset and hold it there; a shorter low pulse does this or nothing (a free value, log 5). While the part is in reset every
other event but RESET_RELEASE does nothing (log 17), and RESET_RELEASE lets it go with the level of TRIG taken from the
input (R135). While CLK does not run, every event but POWER_ON_RESET does nothing. What is kept across a reset is the model's
own queue and counter of free values, and whether CLK runs. -/
def Obligations.ResetsClearThePart : Prop :=
  (∀ s : State, exec .powerOnReset s = .next { State.reset with
    inReset := true, clkRuns := s.clkRuns, freeIndex := s.freeIndex, pending := s.pending }) ∧
  (∀ (s : State) (n : Nat), s.clkRuns = true → 16 ≤ n → exec (.rstN n) s =
    .next { State.reset with inReset := true, freeIndex := s.freeIndex, pending := s.pending }) ∧
  (∀ (s : State) (n : Nat), s.clkRuns = true → n < 16 →
    exec (.rstN n) s = .next { s with freeIndex := s.freeIndex + 1 } ∨
    exec (.rstN n) s = .next { State.reset with inReset := true, freeIndex := s.freeIndex + 1, pending := s.pending }) ∧
  (∀ (s : State) (trigHigh csLow : Bool), s.inReset = true → s.clkRuns = true →
    exec (.resetRelease trigHigh csLow) s = .next { s with
      inReset := false, trigLevel := trigHigh
      link := { s.link with csHeldLow := csLow, sdoDriven := csLow } }) ∧
  (∀ (s : State) (c : Instr), s.clkRuns = false → c.wellFormed = true → c ≠ .powerOnReset → exec c s = .next s) ∧
  (∀ (s : State) (trigHigh csLow : Bool), s.inReset = false → exec (.resetRelease trigHigh csLow) s = .next s) ∧
  (∀ (s : State) (c : Instr), s.inReset = true → c.wellFormed = true → c ≠ .powerOnReset → (∀ n, c ≠ .rstN n) →
    (∀ a b, c ≠ .resetRelease a b) → exec c s = .next s)

/-! ## The control link -/

/-- R162, R164, R165, R183: the commands of the catalogue, UNKNOWN_CMD and FRAME_WITHOUT_COMPLETE_BYTE are exactly the
frames: reading back the frame that carries a well-formed command gives the command, and every frame carries a well-formed
command whose frame it is. -/
def Obligations.FramesAndCommandsAgree : Prop :=
  (∀ (c : Instr) (bytes : List Byte) (extra : Fin 8), c.wellFormed = true → frameOfCommand c = some (bytes, extra) →
    commandOfFrame bytes extra = c) ∧
  (∀ (bytes : List Byte) (extra : Fin 8),
    frameOfCommand (commandOfFrame bytes extra) = some (bytes, extra) ∧ (commandOfFrame bytes extra).wellFormed = true)

/-- R162: a fall of CS_N selects the receiver with the bit count 0 and no byte, and each rising edge of SCK while it is
selected raises the bit count and shifts SDI in: the eighth completes a byte, the first bit taken being its most significant,
which is kept unless the receiver holds all that the command needs. A rising edge while it is not selected is ignored.
R168: every frame taken shifts the result buffer out as it stood before, first byte first and most significant bit
first, with 0x00 beyond its length; afterwards the receiver is not selected, and a frame with no complete byte has left the
buffer as it was. -/
def Obligations.EveryFrameShiftsOutThePreviousResult : Prop :=
  (∀ l : ControlLink, l.selected = false → l.select = { l with
    selected := true, bitCount := 0, received := [], partialBits := [], sdo := [], sdoDriven := true }) ∧
  (∀ (l : ControlLink) (sdi : Bool), l.selected = false → l.sckRise sdi = l) ∧
  (∀ (l : ControlLink) (sdi : Bool), l.selected = true → l.partialBits.length < 7 → ∃ sdo, l.sckRise sdi =
    { l with bitCount := l.bitCount + 1, partialBits := l.partialBits ++ [sdi], sdo := sdo }) ∧
  (∀ (l : ControlLink) (sdi : Bool) (b : Byte), l.selected = true → l.partialBits.length = 7 →
    (∀ j, j < 8 → (l.partialBits ++ [sdi])[j]? = some (b.getLsbD (7 - j))) →
    ∃ received sdo, l.sckRise sdi =
        { l with bitCount := l.bitCount + 1, received := received, partialBits := [], sdo := sdo } ∧
      (l.received = [] → received = [b]) ∧
      (∀ code rest n, l.received = code :: rest → frameLength code = some n →
        received = if rest.length + 1 < n then l.received ++ [b] else l.received)) ∧
  (∀ (c : Instr) (bytes : List Byte) (extra : Fin 8) (s : State),
    LinkReady s → c.wellFormed = true → frameOfCommand c = some (bytes, extra) →
    ∃ t, exec c s = .next t ∧ t.link.selected = false ∧ t.link.bitCount = 8 * bytes.length + extra.val ∧
      t.link.sdo.length = 8 * bytes.length + extra.val ∧
      (∀ k j : Nat, j < 8 → 8 * k + j < 8 * bytes.length + extra.val →
        t.link.sdo[8 * k + j]? = some ((s.link.result.getD k 0x00).getLsbD (7 - j))) ∧
      (bytes = [] → t.link.result = s.link.result))

/-- R165: a frame that has fewer complete bytes than its command's frame length is refused FRAME_SHORT: the status alone
replaces the result buffer, and no other block is reached.
R165: a frame of any length whose code names no command is refused UNKNOWN_CMD, and no other block is reached. The
bytes the receiver keeps of it are the code alone, which is the model's choice (log 10). A term UNKNOWN_CMD whose code names
a command is refused by name (log 16). -/
def Obligations.FramesRefusedByTheLink : Prop :=
  (∀ (s : State) (code : Byte) (f : Frame) (n : Nat), LinkReady s → frameLength code = some n → f.length < n →
    exec (commandOfCode code f) s = .next (afterFrame s s code f [0x09])) ∧
  (∀ (s : State) (code : Byte) (f : Frame), LinkReady s → frameLength code = none →
    exec (.unknownCmd code f) s = .next (afterFrame s s code f [0x0A])) ∧
  (∀ (s : State) (code : Byte) (f : Frame) (n : Nat), frameLength code = some n →
    exec (.unknownCmd code f) s = .refused .codeNamesACommand)

/-- R164: the end of a frame with no complete byte changes nothing in any block, and the result buffer keeps its contents.
R163, R190: while the part is in reset the edges of a frame are ignored, and while CLK does not run no frame is received. A
frame whose CS_N was low already when the part left reset takes no command and leaves the result buffer as it is, and the
next frame is a frame again (log 11). -/
def Obligations.FramesWithoutCommandKeepTheBuffer : Prop :=
  (∀ (s : State) (bits : Fin 8), LinkReady s → exec (.frameWithoutCompleteByte bits) s =
    .next { s with link := { s.link with
      selected := false, bitCount := bits.val, received := [], partialBits := []
      sdo := shiftOut s.link.result bits.val, sdoDriven := false } }) ∧
  (∀ (c : Instr) (bytes : List Byte) (extra : Fin 8) (s : State),
    c.wellFormed = true → frameOfCommand c = some (bytes, extra) →
    (s.inReset = true ∨ s.clkRuns = false → exec c s = .next s) ∧
    (TakesEvents s → s.link.csHeldLow = true →
      exec c s = .next { s with link := { s.link with csHeldLow := false, sdoDriven := false } }))

/-- R165: complete bytes beyond the command's frame length are not looked at: two frames of one command that begin with the
receiver not selected and agree in its first bytes have the same effect and the same result. Only the bits shifted out
and the bit count may differ.
R173: the index byte of the nine commands that concern one instance is not looked at: its value changes no effect and no
result. -/
def Obligations.BytesThatAreNotLookedAt : Prop :=
  (∀ (s : State) (code : Byte) (f g : Frame) (n : Nat), s.link.selected = false →
    frameLength code = some n → n ≤ f.length → n ≤ g.length →
    f.bytes.take (n - 1) = g.bytes.take (n - 1) →
    ∃ t u, exec (commandOfCode code f) s = .next t ∧ exec (commandOfCode code g) s = .next u ∧
      { t with link := { t.link with bitCount := u.link.bitCount, sdo := u.link.sdo } } = u) ∧
  (∀ (s : State) (code b c : Byte) (rest : List Byte) (extra : Fin 8), s.link.selected = false →
    code ∈ ([0x00, 0x01, 0x0A, 0x30, 0x31, 0x32, 0x38, 0x40, 0x41] : List Byte) →
    ∃ t u, exec (commandOfCode code ⟨b :: rest, extra⟩) s = .next t ∧
      exec (commandOfCode code ⟨c :: rest, extra⟩) s = .next u ∧
      { t with link := { t.link with received := u.link.received } } = u)

/-- R10, R49, R59, R60, R61, R129, R130, R166: a command whose index names no group, window or launch point is refused
BAD_INDEX before any other check of its own, and changes nothing. -/
def Obligations.BadIndexIsRefused : Prop :=
  ∀ (s : State) (code : Byte) (f : Frame) (n : Nat), LinkReady s → frameLength code = some n → n ≤ f.length →
    (code ∈ ([0x10, 0x11, 0x12, 0x13, 0x14, 0x15, 0x16, 0x17, 0x18, 0x28, 0x29] : List Byte) ∧ 7 < (f.byte 1).toNat ∨
      code ∈ ([0x20, 0x21, 0x22] : List Byte) ∧ 15 < (f.byte 1).toNat) →
    exec (commandOfCode code f) s = .next (afterFrame s s code f [0x02])

/-- R184, R185, R186, R187, R188, R189: the bytes of the named values. -/
def Obligations.CodesOfTheNamedValues : Prop :=
  [Status.ok, .wrongState, .badIndex, .badArg, .badChain, .badPoint, .checkMismatch, .busy, .empty, .frameShort,
    .unknownCmd].map Status.code = [0x00, 0x01, 0x02, 0x03, 0x04, 0x05, 0x06, 0x07, 0x08, 0x09, 0x0A] ∧
  [StagingMode.coalesce, .ordered].map StagingMode.code = [0x00, 0x01] ∧
  [OverflowPolicy.refuse, .through].map OverflowPolicy.code = [0x00, 0x01] ∧
  (∀ r : Fin 16, filterCode (some r) = BitVec.ofNat 8 r.val) ∧ filterCode none = 0xFF ∧
  [ErrorPolicy.abort, .carryOn].map ErrorPolicy.code = [0x00, 0x01] ∧
  [DeadlineAction.cancel, .force].map DeadlineAction.code = [0x00, 0x01] ∧
  [LaunchCondition.immediate, .nextFrame, .trig, .soft].map LaunchCondition.code =
    [(0x00, 0x00), (0x01, 0x00), (0x03, 0x00), (0x04, 0x00)] ∧
  (∀ p : Fin 8, (LaunchCondition.point p).code = (0x02, BitVec.ofNat 8 p.val)) ∧
  (∀ h : GroupId, (LaunchCondition.after h).code = (0x05, BitVec.ofNat 8 h.val)) ∧
  [MissPolicy.pass, .refuse].map MissPolicy.code = [0x00, 0x01] ∧
  [ReadPolicy.pass, .merge].map ReadPolicy.code = [0x00, 0x01] ∧
  [TimebaseMode.internal, .external].map TimebaseMode.code = [0x00, 0x01] ∧
  [GroupState.idle, .opened, .closed, .armed, .pending, .releasing, .faulted].map GroupState.code =
    [0x00, 0x01, 0x02, 0x03, 0x04, 0x05, 0x06] ∧
  [LockState.none, .search, .locked, .flywheel].map LockState.code = [0x00, 0x01, 0x02, 0x03] ∧
  [EngineState.idle, .settling, .draining, .stopping].map EngineState.code = [0x00, 0x01, 0x02, 0x03] ∧
  [RecordKind.released, .releaseFault, .discarded, .deadlineCancelled, .chainBroken, .overflow, .syncLost, .syncRegained,
    .downstreamStuck].map RecordKind.code = [0x01, 0x02, 0x03, 0x04, 0x05, 0x06, 0x07, 0x08, 0x09]

/-! ## The commands that read -/

/-- R174: NOP replaces the result buffer with OK and changes no state in any block.
R175, R189: BRIDGE_STATUS returns the bridge status in 24 result bytes and changes nothing. -/
def Obligations.NopAndBridgeStatus : Prop :=
  (∀ (s : State) (f : Frame), LinkReady s → 2 ≤ f.length → exec (.nop f) s = .next (afterFrame s s 0x00 f [0x00])) ∧
  (∀ (s : State) (f : Frame), LinkReady s → 2 ≤ f.length →
    exec (.bridgeStatus f) s = .next (afterFrame s s 0x01 f
      ([0x00] ++ bigEndian16 s.free ++
        [(s.group 0).state.code, (s.group 1).state.code, (s.group 2).state.code, (s.group 3).state.code,
          (s.group 4).state.code, (s.group 5).state.code, (s.group 6).state.code, (s.group 7).state.code,
          s.engine.state.code, BitVec.ofNat 8 s.launchQueue.length] ++
        (((s.launchQueue.map fun g : GroupId => BitVec.ofNat 8 g.val) ++ List.replicate 8 0xFF).take 8) ++
        [BitVec.ofNat 8 s.completions.records.length,
          BitVec.ofNat 8 (s.port.tags.toList.countP fun x => x = .abandoned),
          yesNo (decide (∀ t : TagId, s.tag t = .abandoned)), s.timebase.lock.code])))

/-- R23, R187: GROUP_STATUS returns the whole record of the group in 32 result bytes, is taken in every state, and changes
nothing; BAD_INDEX, for an index above 7, is its only refusal. -/
def Obligations.GroupStatusReturnsTheRecord : Prop :=
  (∀ (s : State) (f : Frame), LinkReady s → 2 ≤ f.length → 7 < (f.byte 1).toNat →
    exec (.groupStatus f) s = .next (afterFrame s s 0x17 f [0x02])) ∧
  ∀ (s : State) (f : Frame) (g : GroupId), LinkReady s → 2 ≤ f.length → (f.byte 1).toNat = g.val →
    exec (.groupStatus f) s = .next (afterFrame s s 0x17 f
      (let r := s.group g
       [0x00, r.config.mode.code] ++ bigEndian16 r.config.cap ++
        [r.config.overflow.code, filterCode r.config.filter, r.config.errorPolicy.code, BitVec.ofNat 8 r.config.repeats,
          BitVec.ofNat 8 r.config.deadline, r.config.deadlineAction.code, r.state.code] ++
        bigEndian16 r.entries.length ++
        [yesNo r.condition.isSome, (r.condition.map fun c => c.code.1).getD 0x00,
          (r.condition.map fun c => c.code.2).getD 0x00, yesNo r.deadlineRemaining.isSome,
          BitVec.ofNat 8 (r.deadlineRemaining.getD 0), BitVec.ofNat 8 r.repeatsRemaining] ++
        bigEndian16 r.sequence.toNat ++ [yesNo r.checkCode.isSome] ++ bigEndian32 (r.checkCode.getD 0).toNat ++
        [BitVec.ofBool r.overflowed ++ BitVec.ofBool r.collided ++ BitVec.ofBool r.missed ++ BitVec.ofBool r.forced
            |>.setWidth 8,
          BitVec.ofNat 8 r.collisionCount, BitVec.ofNat 8 r.missedCount] ++
        bigEndian16 r.lastWritten ++ bigEndian16 r.lastFailed))

/-- R49, R188: ENTRY_READ returns the word address, the mask and the data of the entry at the position carried, is refused
BAD_INDEX when the position is not below the entry count, and changes nothing in either case.
R61, R188: WINDOW_READ returns the window's record, valid or not, and changes nothing; BAD_INDEX is its only refusal.
R130, R188: POINT_READ returns the point's record as it was written, and changes nothing; BAD_INDEX is its only refusal.
R123, R188: TIMEBASE_READ returns the state of the timebase but for the line timer, and changes nothing. -/
def Obligations.ReadCommandsReturnTheirRecords : Prop :=
  (∀ (s : State) (f : Frame) (g : GroupId) (e : Entry), LinkReady s → 4 ≤ f.length → (f.byte 1).toNat = g.val →
    (s.group g).entries[(f.half 2).toNat]? = some e →
    exec (.entryRead f) s = .next (afterFrame s s 0x18 f
      ([0x00] ++ bigEndian32 e.address.toNat ++ [BitVec.ofNat 8 e.mask.toNat] ++ bigEndian32 e.data.toNat))) ∧
  (∀ (s : State) (f : Frame) (g : GroupId), LinkReady s → 4 ≤ f.length → (f.byte 1).toNat = g.val →
    (s.group g).entries.length ≤ (f.half 2).toNat → exec (.entryRead f) s = .next (afterFrame s s 0x18 f [0x02])) ∧
  (∀ (s : State) (f : Frame) (w : Fin 16), LinkReady s → 2 ≤ f.length → (f.byte 1).toNat = w.val →
    exec (.windowRead f) s = .next (afterFrame s s 0x22 f
      ([0x00, yesNo (s.window w).valid] ++ bigEndian32 (s.window w).base.toNat ++ bigEndian32 (s.window w).limit.toNat ++
        [BitVec.ofNat 8 (s.window w).group.val, (s.window w).miss.code, (s.window w).read.code]))) ∧
  (∀ (s : State) (f : Frame), LinkReady s → 2 ≤ f.length → 15 < (f.byte 1).toNat →
    exec (.windowRead f) s = .next (afterFrame s s 0x22 f [0x02])) ∧
  (∀ (s : State) (f : Frame) (p : Fin 8), LinkReady s → 2 ≤ f.length → (f.byte 1).toNat = p.val →
    exec (.pointRead f) s = .next (afterFrame s s 0x29 f
      ([0x00, yesNo (s.point p).enabled] ++ bigEndian16 (s.point p).frameValue.toNat ++
        bigEndian16 (s.point p).frameMask.toNat ++ [yesNo (s.point p).lineCheck] ++ bigEndian16 (s.point p).lineValue))) ∧
  (∀ (s : State) (f : Frame), LinkReady s → 2 ≤ f.length → 7 < (f.byte 1).toNat →
    exec (.pointRead f) s = .next (afterFrame s s 0x29 f [0x02])) ∧
  (∀ (s : State) (f : Frame), LinkReady s → 2 ≤ f.length →
    exec (.timebaseRead f) s = .next (afterFrame s s 0x31 f
      ([0x00] ++ bigEndian16 s.timebase.frame.toNat ++ bigEndian16 s.timebase.line ++
        [s.timebase.mode.code, s.timebase.lock.code, yesNo s.timebase.pendingLoad.isSome] ++
        bigEndian16 (s.timebase.pendingLoad.getD 0).toNat ++ bigEndian16 s.timebase.linePeriod ++
        bigEndian16 s.timebase.lines ++ bigEndian16 s.timebase.tolerance)))

/-! ## The group commands -/

/-- R11, R185: GROUP_CONFIG of an IDLE group with every field in range replaces the eight fields of its configuration and
nothing else; a field out of range is refused BAD_ARG in every state, and a group that is not IDLE WRONG_STATE. -/
def Obligations.GroupConfigReplacesTheConfiguration : Prop :=
  (∀ (s : State) (f : Frame) (g : GroupId) (c : GroupConfig), LinkReady s → 11 ≤ f.length → (f.byte 1).toNat = g.val →
    c.mode.code = f.byte 2 → c.cap = (f.half 3).toNat → 1 ≤ c.cap → c.cap ≤ 1024 → c.overflow.code = f.byte 5 →
    filterCode c.filter = f.byte 6 → c.errorPolicy.code = f.byte 7 → c.repeats = (f.byte 8).toNat →
    c.deadline = (f.byte 9).toNat → c.deadlineAction.code = f.byte 10 →
    exec (.groupConfig f) s =
      if (s.group g).state = .idle then
        .next (afterFrame s (s.setGroup g { s.group g with config := c }) 0x10 f [0x00])
      else .next (afterFrame s s 0x10 f [0x01])) ∧
  (∀ (s : State) (f : Frame) (g : GroupId), LinkReady s → 11 ≤ f.length → (f.byte 1).toNat = g.val →
    (1 < (f.byte 2).toNat ∨ (f.half 3).toNat = 0 ∨ 1024 < (f.half 3).toNat ∨ 1 < (f.byte 5).toNat ∨
      (15 < (f.byte 6).toNat ∧ (f.byte 6).toNat < 255) ∨ 1 < (f.byte 7).toNat ∨ 1 < (f.byte 10).toNat) →
    exec (.groupConfig f) s = .next (afterFrame s s 0x10 f [0x03]))

/-- R12, R71: GROUP_OPEN of an IDLE group starts an open period with the flags, the counts and the overflow-reported mark
cleared; of a CLOSED group it makes the check code absent and keeps the rest; in any other state it is refused
WRONG_STATE. -/
def Obligations.GroupOpenOpens : Prop :=
  ∀ (s : State) (f : Frame) (g : GroupId), LinkReady s → 2 ≤ f.length → (f.byte 1).toNat = g.val →
    ((s.group g).state = .idle → exec (.groupOpen f) s = .next (afterFrame s (s.setGroup g { s.group g with
      state := .opened, overflowed := false, collided := false, forced := false, missed := false
      collisionCount := 0, missedCount := 0, overflowReported := false }) 0x11 f [0x00])) ∧
    ((s.group g).state = .closed → exec (.groupOpen f) s =
      .next (afterFrame s (s.setGroup g { s.group g with state := .opened, checkCode := none }) 0x11 f [0x00])) ∧
    ((s.group g).state ≠ .idle → (s.group g).state ≠ .closed →
      exec (.groupOpen f) s = .next (afterFrame s s 0x11 f [0x01]))

/-- R47, R48: the check code of a list feeds nine bytes an entry, in list order and least significant byte first, through the
CRC with the reflected polynomial 0xEDB88320; of the empty list it is 0, and of the nine test bytes 0xCBF43926. -/
def Obligations.CheckCodeIsTheCrcOfTheList : Prop :=
  (∀ es : List Entry, checkCodeOf es = crc (es.flatMap fun e =>
    [BitVec.ofNat 8 e.address.toNat, BitVec.ofNat 8 (e.address.toNat / 256), BitVec.ofNat 8 (e.address.toNat / 65536),
      BitVec.ofNat 8 (e.address.toNat / 16777216), BitVec.ofNat 8 e.mask.toNat,
      BitVec.ofNat 8 e.data.toNat, BitVec.ofNat 8 (e.data.toNat / 256), BitVec.ofNat 8 (e.data.toNat / 65536),
      BitVec.ofNat 8 (e.data.toNat / 16777216)])) ∧
  (∀ bs : List Byte, crc bs = ~~~(bs.foldl (fun r b =>
    (fun x : Word => if x.toNat % 2 = 1 then (x >>> 1) ^^^ 0xEDB88320#32 else x >>> 1)^[8]
      (r ^^^ BitVec.ofNat 32 b.toNat)) 0xFFFFFFFF#32)) ∧
  checkCodeOf [] = 0x00000000#32 ∧
  crc [0x31, 0x32, 0x33, 0x34, 0x35, 0x36, 0x37, 0x38, 0x39] = 0xCBF43926#32

/-- R13: GROUP_CLOSE of an OPEN group closes it with the computed check code, unless an expected code is given that differs:
then it is refused CHECK_MISMATCH and nothing changes. The computed code is the result in both cases. A presence byte above
0x01 is refused BAD_ARG in every state, and a group that is not OPEN WRONG_STATE. -/
def Obligations.GroupCloseFixesTheContents : Prop :=
  ∀ (s : State) (f : Frame) (g : GroupId), LinkReady s → 7 ≤ f.length → (f.byte 1).toNat = g.val →
    ((s.group g).state = .opened →
      (f.byte 2 = 0x00 ∨ f.byte 2 = 0x01 ∧ f.word 3 = checkCodeOf (s.group g).entries) →
      exec (.groupClose f) s = .next (afterFrame s
        (s.setGroup g { s.group g with state := .closed, checkCode := some (checkCodeOf (s.group g).entries) }) 0x12 f
        ([0x00] ++ bigEndian32 (checkCodeOf (s.group g).entries).toNat))) ∧
    ((s.group g).state = .opened → f.byte 2 = 0x01 → f.word 3 ≠ checkCodeOf (s.group g).entries →
      exec (.groupClose f) s = .next (afterFrame s s 0x12 f
        ([0x06] ++ bigEndian32 (checkCodeOf (s.group g).entries).toNat))) ∧
    (1 < (f.byte 2).toNat → exec (.groupClose f) s = .next (afterFrame s s 0x12 f [0x03])) ∧
    ((s.group g).state ≠ .opened → (f.byte 2).toNat ≤ 1 → exec (.groupClose f) s = .next (afterFrame s s 0x12 f [0x01]))

/-- R15, R16, R141: GROUP_ARM of a CLOSED or FAULTED group with a condition other than IMMEDIATE that passes its checks puts
the group into ARMED with the condition, the repeats and a fresh deadline, and changes nothing else. -/
def Obligations.GroupArmArms : Prop :=
  ∀ (s : State) (f : Frame) (g : GroupId) (c : LaunchCondition), LinkReady s → 4 ≤ f.length →
    (f.byte 1).toNat = g.val → ((s.group g).state = .closed ∨ (s.group g).state = .faulted) →
    c ≠ .immediate → c.code.1 = f.byte 2 →
    (∀ p, c = .point p → (f.byte 3).toNat = p.val ∧ (s.point p).enabled = true) →
    (∀ h, c = .after h → (f.byte 3).toNat = h.val ∧
      ((s.group h).state = .armed ∨ (s.group h).state = .pending ∨ (s.group h).state = .releasing) ∧
      ¬ Relation.ReflTransGen (IsAfter s) h g) →
    exec (.groupArm f) s = .next (afterFrame s (s.setGroup g { s.group g with
      state := .armed, condition := some c, repeatsRemaining := (s.group g).config.repeats
      deadlineRemaining := freshDeadline (s.group g).config }) 0x13 f [0x00])

/-- R16, R81, R172: GROUP_ARM with IMMEDIATE puts the group straight into PENDING at the end of the launch queue with no
deadline. An engine that is not IDLE leaves it there; an IDLE engine takes the head of the queue in the same event.
R19, R136: GROUP_LAUNCH of an ARMED group puts it into PENDING at the end of the launch queue, with its condition kept
and FORCED not set. An engine that is not IDLE leaves it there; an IDLE engine takes the head of the queue in the same
event. In any other state it is refused WRONG_STATE. -/
def Obligations.ImmediateAndLaunchQueueTheGroup : Prop :=
  (∀ (s p : State) (f : Frame) (g : GroupId), LinkReady s → 4 ≤ f.length → (f.byte 1).toNat = g.val →
    ((s.group g).state = .closed ∨ (s.group g).state = .faulted) → f.byte 2 = 0x00 →
    p = { s.setGroup g { s.group g with
            state := .pending, condition := some .immediate, repeatsRemaining := (s.group g).config.repeats
            deadlineRemaining := none } with launchQueue := s.launchQueue ++ [g] } →
    (s.engine.state ≠ .idle → exec (.groupArm f) s = .next (afterFrame s p 0x13 f [0x00])) ∧
    (s.engine.state = .idle →
      ∃ u, exec .taking p = .next u ∧ exec (.groupArm f) s = .next (afterFrame s u 0x13 f [0x00]))) ∧
  (∀ (s p : State) (f : Frame) (g : GroupId), LinkReady s → 2 ≤ f.length → (f.byte 1).toNat = g.val →
    p = { s.setGroup g { s.group g with state := .pending, deadlineRemaining := none } with
          launchQueue := s.launchQueue ++ [g] } →
    ((s.group g).state = .armed → s.engine.state ≠ .idle →
      exec (.groupLaunch f) s = .next (afterFrame s p 0x15 f [0x00])) ∧
    ((s.group g).state = .armed → s.engine.state = .idle →
      ∃ u, exec .taking p = .next u ∧ exec (.groupLaunch f) s = .next (afterFrame s u 0x15 f [0x00])) ∧
    ((s.group g).state ≠ .armed → exec (.groupLaunch f) s = .next (afterFrame s s 0x15 f [0x01])))

/-- R10, R15: the refusals of GROUP_ARM, in their order: BAD_ARG, WRONG_STATE, then BAD_POINT for a disabled point and
BAD_CHAIN for AFTER(h) when h is the group itself, is not ARMED, PENDING or RELEASING, or leads through AFTER to AFTER to
the group. A refused GROUP_ARM changes nothing. -/
def Obligations.GroupArmRefusals : Prop :=
  ∀ (s : State) (f : Frame) (g : GroupId), LinkReady s → 4 ≤ f.length → (f.byte 1).toNat = g.val →
    ((5 < (f.byte 2).toNat ∨ ((f.byte 2 = 0x02 ∨ f.byte 2 = 0x05) ∧ 7 < (f.byte 3).toNat)) →
      exec (.groupArm f) s = .next (afterFrame s s 0x13 f [0x03])) ∧
    ((s.group g).state ≠ .closed → (s.group g).state ≠ .faulted → (f.byte 2).toNat ≤ 5 →
      (f.byte 2 = 0x02 ∨ f.byte 2 = 0x05 → (f.byte 3).toNat ≤ 7) →
      exec (.groupArm f) s = .next (afterFrame s s 0x13 f [0x01])) ∧
    (((s.group g).state = .closed ∨ (s.group g).state = .faulted) →
      (∀ p : Fin 8, f.byte 2 = 0x02 → (f.byte 3).toNat = p.val → (s.point p).enabled = false →
        exec (.groupArm f) s = .next (afterFrame s s 0x13 f [0x05])) ∧
      (∀ h : GroupId, f.byte 2 = 0x05 → (f.byte 3).toNat = h.val →
        (h = g ∨
          ((s.group h).state ≠ .armed ∧ (s.group h).state ≠ .pending ∧ (s.group h).state ≠ .releasing) ∨
          Relation.TransGen (IsAfter s) h g) →
        exec (.groupArm f) s = .next (afterFrame s s 0x13 f [0x04])))

/-- R18, R9: GROUP_DISARM of an ARMED or PENDING group with no successor puts it into CLOSED with the condition, the deadline
and the repeats gone and the rest kept, and takes a PENDING one out of the launch queue; in any other state it is refused
WRONG_STATE. (With successors: BreakingIsTransitive.) -/
def Obligations.GroupDisarmWithdraws : Prop :=
  ∀ (s : State) (f : Frame) (g : GroupId), LinkReady s → 2 ≤ f.length → (f.byte 1).toNat = g.val →
    (NoSuccessor s g → (s.group g).state = .armed → exec (.groupDisarm f) s =
      .next (afterFrame s (s.setGroup g { s.group g with
        state := .closed, condition := none, deadlineRemaining := none, repeatsRemaining := 0 }) 0x14 f [0x00])) ∧
    (NoSuccessor s g → (s.group g).state = .pending → exec (.groupDisarm f) s =
      .next (afterFrame s ({ s.setGroup g { s.group g with
        state := .closed, condition := none, deadlineRemaining := none, repeatsRemaining := 0 } with
        launchQueue := s.launchQueue.filter (· ≠ g) }) 0x14 f [0x00])) ∧
    ((s.group g).state ≠ .armed → (s.group g).state ≠ .pending →
      exec (.groupDisarm f) s = .next (afterFrame s s 0x14 f [0x01]))

/-- R20, R8, R45: GROUP_DISCARD of an OPEN, CLOSED or FAULTED group, or of an ARMED or PENDING one with no successor, returns
it to IDLE with its entries freed; a PENDING one leaves the launch queue; the configuration, the sequence number, the last
release result, the flags and the counts are kept, and no record is queued. In IDLE it has no effect. (With successors:
BreakingIsTransitive.) -/
def Obligations.GroupDiscardEmpties : Prop :=
  ∀ (s p : State) (f : Frame) (g : GroupId), LinkReady s → 2 ≤ f.length → (f.byte 1).toNat = g.val →
    p = { s.setGroup g { s.group g with
            state := .idle, entries := [], condition := none, deadlineRemaining := none, repeatsRemaining := 0
            checkCode := none } with free := s.free + (s.group g).entries.length } →
    ((s.group g).state = .idle → exec (.groupDiscard f) s = .next (afterFrame s s 0x16 f [0x00])) ∧
    (((s.group g).state = .opened ∨ (s.group g).state = .closed ∨ (s.group g).state = .faulted) →
      exec (.groupDiscard f) s = .next (afterFrame s p 0x16 f [0x00])) ∧
    (NoSuccessor s g → (s.group g).state = .armed → exec (.groupDiscard f) s = .next (afterFrame s p 0x16 f [0x00])) ∧
    (NoSuccessor s g → (s.group g).state = .pending → exec (.groupDiscard f) s =
      .next (afterFrame s { p with launchQueue := s.launchQueue.filter (· ≠ g) } 0x16 f [0x00]))

/-- R9, R18, R20, R139, R154: when GROUP_DISARM or GROUP_DISCARD takes an ARMED or PENDING group g out of its armed states,
g goes to CLOSED with the rest of its record kept, or to IDLE with its entries freed, and a PENDING one leaves the
launch queue. Then every group that waits on g through ARMED successors, and no other, goes to CLOSED with its
condition, deadline and repeats gone and the rest of its record kept; and one CHAIN_BROKEN record for each of them is
offered in ascending group number, those caused by a broken successor's own leaving among them (DESIGN CHOICE, log 31).
Nothing else changes. (A fault and the end of a stop: FaultsAndStopsEndTheRelease, GroupDiscardStopsTheRelease. A
deadline under CANCEL: DeadlineExpiryForcesOrCancels, MarksFireAndExpire.) -/
def Obligations.BreakingIsTransitive : Prop :=
  (∀ (s p : State) (f : Frame) (g : GroupId), LinkReady s → 2 ≤ f.length → (f.byte 1).toNat = g.val →
    ((s.group g).state = .armed ∨ (s.group g).state = .pending) →
    p = { s with
      launchQueue := if (s.group g).state = .pending then s.launchQueue.filter (· ≠ g) else s.launchQueue } →
    (∃ b, Broke (p.setGroup g (closedRecord (s.group g))) g b ∧
      exec (.groupDisarm f) s = .next (afterFrame s b 0x14 f [0x00])) ∧
    (∃ b, Broke { p.setGroup g (emptiedRecord (s.group g)) with free := s.free + (s.group g).entries.length } g b ∧
      exec (.groupDiscard f) s = .next (afterFrame s b 0x16 f [0x00]))) ∧
  (∀ (s : State) (f : Frame) (g : GroupId) (c : Instr), LinkReady s → 2 ≤ f.length → (f.byte 1).toNat = g.val →
    ((s.group g).state = .armed ∨ (s.group g).state = .pending) → (c = .groupDisarm f ∨ c = .groupDiscard f) →
    ∃ (t : State) (broken : List GroupId), exec c s = .next t ∧ broken.Pairwise (· < ·) ∧
      (∀ k, k ∈ broken ↔ IsBrokenBy s g k) ∧
      (∀ k ∈ broken, t.group k = { s.group k with
        state := .closed, condition := none, deadlineRemaining := none, repeatsRemaining := 0 }) ∧
      (∀ k, k ≠ g → k ∉ broken → t.group k = s.group k) ∧
      (t.group g).state = (if c = .groupDisarm f then .closed else .idle) ∧
      t.completions = (broken.foldl (fun u k => withRecord u (plainRecord u .chainBroken (some k))) s).completions ∧
      t.launchQueue = (if (s.group g).state = .pending then s.launchQueue.filter (· ≠ g) else s.launchQueue))

/-- R21, R90, R91, R29: GROUP_DISCARD of the RELEASING group in hand. While its release write is ISSUED the engine goes to
STOPPING with cause DISCARD and keeps the write; a release that is stopping already stays as it is. Otherwise a write
that waits for a tag is withdrawn and the stop ends in the same event: the sequence number rises, the counts become the
last release result, a DISCARDED record with all flags clear is queued, the group goes to IDLE with its entries freed,
its successors are broken, the engine goes to IDLE, the fence on the group lifts, and the event goes on with the taking
of the next group (R89). With no successor, no group in the launch queue and no request waiting for a tag that is all.
Heads may be judged before the next taking: how many is a free value (log 4), and that nothing comes between two beats
of such a judgement is the model's choice (DESIGN CHOICE, log 30). The order of the CHAIN_BROKEN records of a transitive
break is the model's choice (DESIGN CHOICE, log 31). -/
def Obligations.GroupDiscardStopsTheRelease : Prop :=
  ∀ (s : State) (f : Frame) (g : GroupId), LinkReady s → 2 ≤ f.length → (f.byte 1).toNat = g.val →
    (s.group g).state = .releasing → s.engine.group = some g →
    (s.engine.state = .draining → s.engine.write = .issued → exec (.groupDiscard f) s =
      .next (afterFrame s { s with engine := { s.engine with state := .stopping, cause := some .discard } } 0x16 f [0x00])) ∧
    (s.engine.state = .stopping → exec (.groupDiscard f) s = .next (afterFrame s s 0x16 f [0x00])) ∧
    ((s.engine.state = .settling ∨ s.engine.state = .draining ∧ s.engine.write ≠ .issued) →
      ∃ b t, Broke (discardRecorded s g s.engine.written s.engine.failed) g b ∧ GoesOn (released b g) id t ∧
        exec (.groupDiscard f) s = .next (afterFrame s t 0x16 f [0x00])) ∧
    ((s.engine.state = .settling ∨ s.engine.state = .draining ∧ s.engine.write ≠ .issued) → NoSuccessor s g →
      s.launchQueue = [] → s.port.waiting = [] →
      exec (.groupDiscard f) s = .next (afterFrame s
        { withRecord
            (s.setGroup g { s.group g with
              state := .idle, entries := [], condition := none, deadlineRemaining := none, repeatsRemaining := 0
              checkCode := none, sequence := (s.group g).sequence + 1
              lastWritten := s.engine.written, lastFailed := s.engine.failed })
            (releaseRecord s .discarded g ⟨(s.group g).sequence + 1, s.engine.written, s.engine.failed⟩ {}) with
          free := s.free + (s.group g).entries.length
          engine := {}
          fencedOn := if s.fencedOn = some g then none else s.fencedOn } 0x16 f [0x00]))

/-! ## The commands for windows, points, the timebase, the memory port, the queue and the interrupt line -/

/-- R59, R186: WINDOW_SET with its fields in range replaces the five fields of the window and makes it valid; it is refused
BUSY when the window is valid and the group it names is RELEASING, or the group carried is RELEASING; a field out of range
is refused BAD_ARG in every state, and an index above 15 BAD_INDEX before that. A refused WINDOW_SET changes nothing.
R60: WINDOW_CLEAR makes the window invalid and keeps its other fields; it is refused BAD_INDEX for an index above 15, and
BUSY when the window is valid and the group it names is RELEASING; of an invalid window it changes nothing. -/
def Obligations.WindowCommandsWriteTheTable : Prop :=
  (∀ (s : State) (f : Frame), LinkReady s → 15 < (f.byte 1).toNat →
    (13 ≤ f.length → exec (.windowSet f) s = .next (afterFrame s s 0x20 f [0x02])) ∧
    (2 ≤ f.length → exec (.windowClear f) s = .next (afterFrame s s 0x21 f [0x02]))) ∧
  (∀ (s : State) (f : Frame) (w : Fin 16) (r : Window), LinkReady s → 13 ≤ f.length → (f.byte 1).toNat = w.val →
    r.valid = true → r.base = f.word 2 → r.limit = f.word 6 → r.base.toNat % 64 = 0 → r.limit.toNat % 64 = 0 →
    r.base.toNat ≤ r.limit.toNat → r.group.val = (f.byte 10).toNat → r.miss.code = f.byte 11 →
    r.read.code = f.byte 12 →
    exec (.windowSet f) s =
      if ((s.window w).valid = true ∧ (s.group (s.window w).group).state = .releasing) ∨
          (s.group r.group).state = .releasing then
        .next (afterFrame s s 0x20 f [0x07])
      else .next (afterFrame s { s with windows := s.windows.set w.val r } 0x20 f [0x00])) ∧
  (∀ (s : State) (f : Frame) (w : Fin 16), LinkReady s → 13 ≤ f.length → (f.byte 1).toNat = w.val →
    ((f.word 2).toNat % 64 ≠ 0 ∨ (f.word 6).toNat % 64 ≠ 0 ∨ (f.word 6).toNat < (f.word 2).toNat ∨
      7 < (f.byte 10).toNat ∨ 1 < (f.byte 11).toNat ∨ 1 < (f.byte 12).toNat) →
    exec (.windowSet f) s = .next (afterFrame s s 0x20 f [0x03])) ∧
  (∀ (s : State) (f : Frame) (w : Fin 16), LinkReady s → 2 ≤ f.length → (f.byte 1).toNat = w.val →
    ((s.window w).valid = true → (s.group (s.window w).group).state = .releasing →
      exec (.windowClear f) s = .next (afterFrame s s 0x21 f [0x07])) ∧
    ((s.window w).valid = true → (s.group (s.window w).group).state ≠ .releasing →
      exec (.windowClear f) s =
        .next (afterFrame s { s with windows := s.windows.set w.val { s.window w with valid := false } } 0x21 f [0x00])) ∧
    ((s.window w).valid = false → exec (.windowClear f) s = .next (afterFrame s s 0x21 f [0x00])))

/-- R129, R186: POINT_SET with its fields in range replaces the five fields of the point, whatever the state of the groups,
and touches nothing else; a code that names neither value or a line value above 4095 is refused BAD_ARG and changes
nothing. -/
def Obligations.PointSetWritesThePoint : Prop :=
  (∀ (s : State) (f : Frame) (p : Fin 8) (r : LaunchPoint), LinkReady s → 10 ≤ f.length → (f.byte 1).toNat = p.val →
    yesNo r.enabled = f.byte 2 → r.frameValue = f.half 3 → r.frameMask = f.half 5 → yesNo r.lineCheck = f.byte 7 →
    r.lineValue = (f.half 8).toNat → r.lineValue ≤ 4095 →
    exec (.pointSet f) s = .next (afterFrame s { s with points := s.points.set p.val r } 0x28 f [0x00])) ∧
  (∀ (s : State) (f : Frame) (p : Fin 8), LinkReady s → 10 ≤ f.length → (f.byte 1).toNat = p.val →
    (1 < (f.byte 2).toNat ∨ 1 < (f.byte 7).toNat ∨ 4095 < (f.half 8).toNat) →
    exec (.pointSet f) s = .next (afterFrame s s 0x28 f [0x03]))

/-- R120, R186: TIMEBASE_CONFIG with its values in range replaces the mode, the line period, L and T, sets the lock state to
NONE for INTERNAL and to SEARCH for EXTERNAL whatever it was, and leaves the counters, the line timer and the pending load;
a value out of range is refused BAD_ARG and changes nothing.
R122: TIMEBASE_LOAD makes the pending frame load present with the value carried, replacing any other, and changes
nothing else.
R103: PORT_CONFIG sets the response timeout of the requests issued from now on; BUSY tags keep theirs. A value below 256
is refused BAD_ARG and changes nothing. -/
def Obligations.TimebaseAndPortCommandsWriteTheirValues : Prop :=
  (∀ (s : State) (f : Frame) (m : TimebaseMode), LinkReady s → 9 ≤ f.length → m.code = f.byte 2 →
    16 ≤ (f.half 3).toNat → 2 ≤ (f.half 5).toNat → (f.half 5).toNat ≤ 4096 → (f.half 7).toNat ≤ 255 →
    exec (.timebaseConfig f) s = .next (afterFrame s { s with timebase := { s.timebase with
      mode := m, linePeriod := (f.half 3).toNat, lines := (f.half 5).toNat, tolerance := (f.half 7).toNat
      lock := if m = .internal then .none else .search } } 0x30 f [0x00])) ∧
  (∀ (s : State) (f : Frame), LinkReady s → 9 ≤ f.length →
    (1 < (f.byte 2).toNat ∨ (f.half 3).toNat < 16 ∨ (f.half 5).toNat < 2 ∨ 4096 < (f.half 5).toNat ∨
      255 < (f.half 7).toNat) →
    exec (.timebaseConfig f) s = .next (afterFrame s s 0x30 f [0x03])) ∧
  (∀ (s : State) (f : Frame), LinkReady s → 4 ≤ f.length → exec (.timebaseLoad f) s = .next (afterFrame s
    { s with timebase := { s.timebase with pendingLoad := some (f.byte 2 ++ f.byte 3) } } 0x32 f [0x00])) ∧
  (∀ (s : State) (f : Frame), LinkReady s → 4 ≤ f.length →
    (256 ≤ (f.half 2).toNat → exec (.portConfig f) s =
      .next (afterFrame s { s with port := { s.port with timeout := (f.half 2).toNat } } 0x38 f [0x00])) ∧
    ((f.half 2).toNat < 256 → exec (.portConfig f) s = .next (afterFrame s s 0x38 f [0x03])))

/-- R155, R158, R189: QUEUE_POP removes the oldest record, which becomes its result; the urgent count falls by one for an
urgent kind, IRQ_N is set anew, and the lost counter is kept; the counts reported with a RELEASED record leave with it
(log 27). Of an empty queue it is refused EMPTY and changes nothing.
R159, R158: IRQ_CONFIG with its values in range replaces the three values and sets IRQ_N anew in the same event; an enable
code that names neither value, or a threshold of 0 or above 32, is refused BAD_ARG and changes nothing. -/
def Obligations.QueueCommandsFollowTheRecords : Prop :=
  (∀ (s : State) (f : Frame) (r : CompletionRecord) (rest : List CompletionRecord) (urgent : Nat), LinkReady s →
    2 ≤ f.length → s.completions.records = r :: rest →
    urgent = (if r.kind ∈ ([.releaseFault, .deadlineCancelled, .chainBroken, .overflow, .syncLost, .downstreamStuck] :
      List RecordKind) then s.completions.urgent - 1 else s.completions.urgent) →
    exec (.queuePop f) s = .next (afterFrame s { s with
      completions := { records := rest, lost := s.completions.lost, urgent := urgent }
      reported := if r.kind = .released then s.reported.tail else s.reported
      irqLow := s.irq.master &&
        (decide (s.irq.threshold ≤ rest.length) || (s.irq.urgent && decide (0 < urgent))) } 0x40 f
      ([0x00, r.kind.code, yesNo r.group.isSome, BitVec.ofNat 8 ((r.group.map Fin.val).getD 0), yesNo r.report.isSome] ++
        bigEndian16 ((r.report.map fun p => p.sequence.toNat).getD 0) ++ bigEndian16 r.frame.toNat ++
        bigEndian16 r.line ++ [yesNo r.report.isSome] ++ bigEndian16 ((r.report.map fun p => p.written).getD 0) ++
        bigEndian16 ((r.report.map fun p => p.failed).getD 0) ++
        [BitVec.setWidth 8 (BitVec.ofBool r.flags.repeated ++ BitVec.ofBool r.flags.overflowed ++
            BitVec.ofBool r.flags.collided ++ BitVec.ofBool r.flags.missed ++ BitVec.ofBool r.flags.forced),
          BitVec.ofNat 8 r.lost]))) ∧
  (∀ (s : State) (f : Frame), LinkReady s → 2 ≤ f.length → s.completions.records = [] →
    exec (.queuePop f) s = .next (afterFrame s s 0x40 f [0x08])) ∧
  (∀ (s : State) (f : Frame) (c : IrqConfig), LinkReady s → 5 ≤ f.length → yesNo c.master = f.byte 2 →
    c.threshold = (f.byte 3).toNat → 1 ≤ c.threshold → c.threshold ≤ 32 → yesNo c.urgent = f.byte 4 →
    exec (.irqConfig f) s = .next (afterFrame s { s with
      irq := c
      irqLow := c.master && (decide (c.threshold ≤ s.completions.records.length) ||
        (c.urgent && decide (0 < s.completions.urgent))) } 0x41 f [0x00])) ∧
  (∀ (s : State) (f : Frame), LinkReady s → 5 ≤ f.length →
    (1 < (f.byte 2).toNat ∨ (f.byte 3).toNat = 0 ∨ 32 < (f.byte 3).toNat ∨ 1 < (f.byte 4).toNat) →
    exec (.irqConfig f) s = .next (afterFrame s s 0x41 f [0x03]))

/-- R7, R46, R79, R92, R105, R148, R157, R177, R178: SOFT_RESET empties every group to IDLE with its configuration, sequence
number and last release result kept, frees all 1024 slots, lifts the fence, empties the launch queue and the completion
queue, with the counts reported with its records (log 27), with IRQ_N set anew, and puts the engine to IDLE, or to
STOPPING with cause SOFT_RESET while its write is ISSUED. Everything else is kept. -/
def Obligations.SoftResetEmptiesTheStagingSide : Prop :=
  ∀ (s : State) (f : Frame), LinkReady s → 2 ≤ f.length → 1 ≤ s.irq.threshold → exec (.softReset f) s =
    .next (afterFrame s { s with
      groups := s.groups.map fun r =>
        { config := r.config, sequence := r.sequence, lastWritten := r.lastWritten, lastFailed := r.lastFailed }
      free := 1024
      fencedOn := none
      engine :=
        if s.engine.state = .idle then s.engine
        else if s.engine.state = .stopping then { s.engine with cause := some .softReset }
        else if s.engine.state = .draining ∧ s.engine.write = .issued then
          { s.engine with state := .stopping, cause := some .softReset }
        else {}
      launchQueue := []
      completions := { records := [], lost := 0, urgent := 0 }
      reported := []
      irqLow := false } 0x0A f [0x00])

/-! ## The system port -/

/-- R52, R53, R56: an offered transaction takes the last place of an ingress queue that holds fewer than 8, and is held off,
with no effect, by one that holds 8. TRANSACTION_RESPONSE returns the response of the oldest transaction when it is complete
and frees its place: for a READ each beat's outcome and data, for a WRITE a single OKAY when every beat finished OKAY and a
single ERROR otherwise; it does nothing while the oldest is not complete. A term that is no transaction is refused by name
(log 16). -/
def Obligations.TransactionsEnterAndLeaveInOrder : Prop :=
  (∀ (s : State) (t : Transaction), TakesEvents s → t.wellFormed = true → s.ingress.length < 8 →
    exec (.acceptance t) s = .next { s with
      ingress := s.ingress ++ [{ id := s.nextId, request := t, dispatched := false, results := [] }]
      nextId := s.nextId + 1 }) ∧
  (∀ (s : State) (t : Transaction), TakesEvents s → t.wellFormed = true → 8 ≤ s.ingress.length →
    exec (.acceptance t) s = .next s) ∧
  (∀ (s : State) (t : Transaction), (t.start.toNat % 4 ≠ 0 ∨ t.beatCount = 0 ∨ 16 < t.beatCount) →
    exec (.acceptance t) s = .refused .notATransaction) ∧
  (∀ (s : State) (u : Ingress) (rest : List Ingress), TakesEvents s → s.ingress = u :: rest → u.dispatched = true →
    (∀ b ∈ u.results, b ≠ .outstanding) →
    exec .transactionResponse s = .next { s with
      ingress := rest
      response := some (match u.request.transfer with
        | .read _ => .read u.request.requester u.results
        | .write _ => .write u.request.requester (if u.results.any (fun b =>
            match b with
            | .finished .error _ => true
            | _ => false) then .error else .okay)) }) ∧
  (∀ (s : State), TakesEvents s →
    (∀ u rest, s.ingress = u :: rest → u.dispatched = false ∨ .outstanding ∈ u.results) →
    exec .transactionResponse s = .next s)

/-- R57, R58: the governing window of an address is the lowest-numbered valid window that covers it, from its base to its
limit plus 63; an address that no valid window covers has none. -/
def Obligations.LowestValidWindowGoverns : Prop :=
  (∀ (s : State) (address : Word) (i : Fin 16), Governs s address i → s.governing address = some (s.window i)) ∧
  (∀ (s : State) (address : Word), NotGoverned s address → s.governing address = none)

/-- R54, R55, R63, R64: the judgement of the head. With no WAITING transaction, or while the head waits at the fence, nothing
is judged. A head whose first and last beats lie in different 1 KiB blocks becomes DISPATCHED with ERROR for every beat and
no other effect, whatever the fence. A head with a beat governed by a RELEASING group stays WAITING, and from then on
it waits on the group that governs the first such beat, and nothing else changes. The same holds of a judgement between the
end of a release and the next taking. -/
def Obligations.JudgementChecksBoundaryThenFence : Prop :=
  (∀ (s : State), TakesEvents s → ((∀ u ∈ s.ingress, u.dispatched = true) ∨ s.fencedOn ≠ none) →
    exec .judgement s = .next s ∧ s.judge id = s) ∧
  (∀ (s : State) (u : Ingress) (before behind : List Ingress), TakesEvents s → s.fencedOn = none →
    IsHead s u before behind → ¬ InOneBlock u.request →
    ∃ t, t = ({ s with
        ingress := before ++ { u with
          dispatched := true, results := List.replicate u.request.beatCount (.finished .error 0) } :: behind } : State) ∧
      exec .judgement s = .next t ∧ s.judge id = t) ∧
  (∀ (s : State) (u : Ingress) (before behind : List Ingress), TakesEvents s → s.fencedOn = none →
    IsHead s u before behind → InOneBlock u.request → Fenced s u.request →
    ∃ (k : Nat) (i : Fin 16), k < u.request.beatCount ∧ Governs s (beatAt u.request k) i ∧
      (s.group (s.window i).group).state = .releasing ∧ (∀ j, j < k → ¬ BeatFenced s u.request j) ∧
      exec .judgement s = .next { s with fencedOn := some (s.window i).group } ∧
      s.judge id = { s with fencedOn := some (s.window i).group })

/-- R40, R54, R70: a head that passes the boundary check and the fence test has every beat decided and dispatched, in beat
order from beat 0, each against the state as it then stands, and becomes DISPATCHED with their results. Between two
beats of the command JUDGEMENT responses and timeouts may be taken that do not end a release, so a later beat may find
room that one of them has freed: which ones is a free value (log 30). Between two beats of a judgement that comes
between the end of a release and the next taking there is none (the model's choice, log 30). -/
def Obligations.JudgementDecidesEveryBeatInOrder : Prop :=
  ∀ (s : State) (u : Ingress) (before behind : List Ingress), TakesEvents s → s.fencedOn = none →
    IsHead s u before behind → InOneBlock u.request → ¬ Fenced s u.request →
    (∃ t, exec .judgement s = .next t ∧ BeatsDecided BetweenBeats s u t) ∧
      BeatsDecided NothingBetween s u (s.judge id)

/-- R67, R69, R72, R73: the write beats that are not captured. Mask 0 finishes OKAY with no other effect. A beat with no
governing window is forwarded with no settle mark. A beat whose group is not OPEN, or whose requester the filter turns
away, is a write miss: ERROR under REFUSE; under PASS it is forwarded with its group as settle mark, and it is a collision,
flagged and counted up to 255, when the group is CLOSED, ARMED, PENDING or FAULTED and holds an entry at its word. -/
def Obligations.WriteBeatsThatMiss : Prop :=
  ∀ (s : State) (id k : Nat) (t : Transaction) (b : WriteBeat),
    (b.mask = 0 → s.decideWrite id t k b = (s, .finished .okay 0)) ∧
    (b.mask ≠ 0 → NotGoverned s (beatAt t k) → s.decideWrite id t k b =
      (s.handOver ⟨beatAt t k, .write b.data b.mask, none, id, k, none⟩, .outstanding)) ∧
    (∀ (i : Fin 16) (g : GroupId), b.mask ≠ 0 → Governs s (beatAt t k) i → g = (s.window i).group →
      ((s.group g).state ≠ .opened ∨ ¬ PassesFilter (s.group g).config t.requester) →
      ((s.window i).miss = .refuse → s.decideWrite id t k b = (s, .finished .error 0)) ∧
      ((s.window i).miss = .pass →
        ((s.group g).state = .closed ∨ (s.group g).state = .armed ∨ (s.group g).state = .pending ∨
          (s.group g).state = .faulted) → (∃ e ∈ (s.group g).entries, e.address = beatAt t k) →
        s.decideWrite id t k b =
          ((s.setGroup g { s.group g with
              collided := true, collisionCount := min ((s.group g).collisionCount + 1) 255 }).handOver
            ⟨beatAt t k, .write b.data b.mask, some g, id, k, none⟩, .outstanding)) ∧
      ((s.window i).miss = .pass →
        ((s.group g).state = .idle ∨ (s.group g).state = .opened ∨ (s.group g).state = .releasing ∨
          ∀ e ∈ (s.group g).entries, e.address ≠ beatAt t k) →
        s.decideWrite id t k b =
          (s.handOver ⟨beatAt t k, .write b.data b.mask, some g, id, k, none⟩, .outstanding)))

/-- R34 to R38, R68, R70, R71: the write beats that are captured. Under COALESCE a beat merges into the entry at its word,
which keeps its place, with no regard to cap or pool. Otherwise a new entry is made at the end of the list when the group is
below its cap and a slot is free. Otherwise the beat is an overflow: the flag and the overflow-reported mark are set, the
first of the open period queues an OVERFLOW record, and the beat finishes ERROR under REFUSE or is forwarded under
THROUGH. The bytes that a mask selects are taken from the beat, and the others are kept, or 0x00 in a new entry. -/
def Obligations.WriteBeatsThatAreCaptured : Prop :=
  (∀ (m : Mask) (new old : Word) (n : Nat), n < 4 → (mergeBytes m new old).extractLsb' (8 * n) 8 =
    if m.getLsbD n then new.extractLsb' (8 * n) 8 else old.extractLsb' (8 * n) 8) ∧
  (∀ (s : State) (id k : Nat) (t : Transaction) (b : WriteBeat) (i : Fin 16) (g : GroupId), b.mask ≠ 0 →
    Governs s (beatAt t k) i → g = (s.window i).group → (s.group g).state = .opened →
    PassesFilter (s.group g).config t.requester →
    (∀ (e : Entry) (before behind : List Entry), (s.group g).config.mode = .coalesce →
      (s.group g).entries = before ++ e :: behind → e.address = beatAt t k →
      (∀ x ∈ before, x.address ≠ beatAt t k) →
      s.decideWrite id t k b = (s.setGroup g { s.group g with
        entries := before ++ ⟨e.address, mergeBytes b.mask b.data e.data, e.mask ||| b.mask⟩ :: behind },
        .finished .okay 0)) ∧
    (((s.group g).config.mode = .ordered ∨ ∀ e ∈ (s.group g).entries, e.address ≠ beatAt t k) →
      ((s.group g).entries.length < (s.group g).config.cap → 0 < s.free →
        s.decideWrite id t k b = ({ s.setGroup g { s.group g with
          entries := (s.group g).entries ++ [⟨beatAt t k, mergeBytes b.mask b.data 0, b.mask⟩] } with
            free := s.free - 1 }, .finished .okay 0)) ∧
      (((s.group g).config.cap ≤ (s.group g).entries.length ∨ s.free = 0) →
        ((s.group g).config.overflow = .refuse →
          s.decideWrite id t k b = (overflowNoted s g, .finished .error 0)) ∧
        ((s.group g).config.overflow = .through →
          s.decideWrite id t k b =
            ((overflowNoted s g).handOver ⟨beatAt t k, .write b.data b.mask, some g, id, k, none⟩, .outstanding)))))

/-- R74, R75, R77: the read beats. A beat with no governing window, or under PASS, or of a MERGE window whose group is IDLE
or holds no entry at its word, is passed, with its group as settle mark when it has one. Otherwise it is overlaid: each
byte of the overlay is the newest entry's that selects it. A full overlay answers the beat at once; another goes with
the memory read. -/
def Obligations.ReadBeatsAreMerged : Prop :=
  (∀ (es : List Entry) (n : Nat), n < 4 →
    (overlayOf es).mask.getLsbD n = es.any (fun e => e.mask.getLsbD n) ∧
    (overlayOf es).data.extractLsb' (8 * n) 8 =
      ((es.filter fun e => e.mask.getLsbD n).getLast?.map fun e => e.data.extractLsb' (8 * n) 8).getD 0) ∧
  (∀ (s : State) (id k : Nat) (t : Transaction),
    (NotGoverned s (beatAt t k) →
      s.decideRead id t k = (s.handOver ⟨beatAt t k, .read, none, id, k, none⟩, .outstanding)) ∧
    (∀ (i : Fin 16) (g : GroupId) (es : List Entry), Governs s (beatAt t k) i → g = (s.window i).group →
      es = (s.group g).entries.filter (fun e => e.address = beatAt t k) →
      (((s.window i).read = .pass ∨ (s.group g).state = .idle ∨ es = []) →
        s.decideRead id t k = (s.handOver ⟨beatAt t k, .read, some g, id, k, none⟩, .outstanding)) ∧
      ((s.window i).read = .merge → (s.group g).state ≠ .idle → (s.group g).state ≠ .releasing → es ≠ [] →
        ((overlayOf es).mask = 0xF → s.decideRead id t k = (s, .finished .okay (overlayOf es).data)) ∧
        ((overlayOf es).mask ≠ 0xF → s.decideRead id t k =
          (s.handOver ⟨beatAt t k, .read, some g, id, k, some (overlayOf es)⟩, .outstanding)))))

/-! ## The memory port -/

/-- R77, R96, R97, R98, R99: a pass-through request takes the last place of its side and raises the settle count of its mark;
it is issued at once when a tag is FREE and nothing else waits, and waits when none is. GRANT issues, on the lowest-numbered
FREE tag, the request of the side that alone has one, or of the side not granted last when both have; with no FREE tag or
no request it does nothing. The timer of the tag starts at 0 against the timeout in force. -/
def Obligations.TagsAreGrantedByTheArbiter : Prop :=
  (∀ (s : State) (r : PassRequest), NoFreeTag s.port → s.handOver r =
    { s with port := { s.port with waiting := s.port.waiting ++ [r], settle := settleRaised s.port r.mark } }) ∧
  (∀ (s : State) (r : PassRequest) (t : TagId), IsLowestFree s.port t → s.port.waiting = [] →
    s.engine.write ≠ .requested → s.handOver r =
    { s with port := { s.port with
      tags := s.port.tags.set t.val (.busy (.passThrough r) 0 s.port.timeout)
      waiting := [], settle := settleRaised s.port r.mark, lastGranted := .passThrough } }) ∧
  (∀ (s : State), TakesEvents s →
    (NoFreeTag s.port ∨ s.port.waiting = [] ∧ s.engine.write ≠ .requested) → exec .grant s = .next s) ∧
  (∀ (s : State) (t : TagId) (r : PassRequest) (rest : List PassRequest), TakesEvents s →
    IsLowestFree s.port t → s.port.waiting = r :: rest →
    (s.engine.write ≠ .requested ∨ s.port.lastGranted = .release) → exec .grant s = .next { s with port := { s.port with
      tags := s.port.tags.set t.val (.busy (.passThrough r) 0 s.port.timeout)
      waiting := rest, lastGranted := .passThrough } }) ∧
  (∀ (s : State) (t : TagId) (e : Entry), TakesEvents s →
    IsLowestFree s.port t → s.engine.write = .requested → s.engine.copy = some e →
    (s.port.waiting = [] ∨ s.port.lastGranted = .passThrough) →
    exec .grant s = .next (writeIssued s s.engine t e))

/-- R76, R77, R97, R100, R101: the end of a pass-through request, by a response, which frees the tag, or by a timeout, which
abandons it and is an ERROR: its beat finishes and the settle count of its mark falls. With no request waiting for a tag
and no release in SETTLING nothing else changes. A response on an ABANDONED tag frees it and reaches no block, and the
tags are then granted, also to a release write that waits REQUESTED while the port is STUCK (R98, R102); one on a FREE
tag is ignored; a timeout of a tag that is not BUSY does nothing (log 7).
R100, R102: the timeout that makes all four tags ABANDONED queues one DOWNSTREAM_STUCK record with no group, ahead of what
the failure causes; while the port is STUCK nothing is issued, and the late response that ends it queues nothing and lets
the oldest waiting request have the tag.
R83, R84, R98: in every state of the port and the engine, the end of a pass-through request that brings the settle count of
the group in hand to 0 ends SETTLING in the same event: the first release write is asked for, or an empty list completes;
any other leaves the engine as it is. Then the tags are granted, the one freed by a response among them. When an empty list
completes, the event goes on with the taking of the next group. Heads may be judged before the next taking: how many is a
free value (log 4), and that nothing comes between two beats of such a judgement is the model's choice (DESIGN CHOICE, log
30). -/
def Obligations.PassThroughRequestsEndOrStick : Prop :=
  (∀ (s : State) (t : TagId) (r : PassRequest) (n m : Nat) (answer : Answer) (data : Word), TakesEvents s →
    s.tag t = .busy (.passThrough r) n m → s.port.waiting = [] → s.engine.write ≠ .requested →
    s.engine.state ≠ .settling →
    exec (.response t answer data) s = .next (passEnded (withTag s t .free) r (passResult r answer data))) ∧
  (∀ (s : State) (t u : TagId) (r : PassRequest) (n m : Nat), TakesEvents s →
    s.tag t = .busy (.passThrough r) n m → u ≠ t → s.tag u ≠ .abandoned → s.port.waiting = [] →
    s.engine.write ≠ .requested → s.engine.state ≠ .settling →
    exec (.responseTimeout t) s = .next (passEnded (withTag s t .abandoned) r (.finished .error 0))) ∧
  (∀ (s : State) (t : TagId) (answer : Answer) (data : Word), TakesEvents s → s.tag t = .abandoned →
    s.port.waiting = [] → s.engine.write ≠ .requested →
    exec (.response t answer data) s = .next (withTag s t .free)) ∧
  (∀ (s : State) (t : TagId) (answer : Answer) (data : Word), TakesEvents s → s.tag t = .abandoned →
    ∃ v, exec (.response t answer data) s = .next v ∧ Granted (withTag s t .free) v) ∧
  (∀ (s : State) (t : TagId) (answer : Answer) (data : Word), TakesEvents s → s.tag t = .free →
    exec (.response t answer data) s = .next s) ∧
  (∀ (s : State) (t : TagId), TakesEvents s → (s.tag t = .free ∨ s.tag t = .abandoned) →
    exec (.responseTimeout t) s = .next s) ∧
  (∀ (s : State) (t : TagId) (r : PassRequest) (n m : Nat), TakesEvents s → s.tag t = .busy (.passThrough r) n m →
    (∀ u, u ≠ t → s.tag u = .abandoned) → s.engine.state ≠ .settling →
    exec (.responseTimeout t) s = .next (passEnded
      (withRecord (withTag s t .abandoned) (plainRecord s .downstreamStuck none)) r (.finished .error 0))) ∧
  (∀ (s : State) (t : TagId) (r : PassRequest) (rest : List PassRequest) (answer : Answer) (data : Word),
    TakesEvents s → (∀ u, s.tag u = .abandoned) → s.port.waiting = r :: rest → s.engine.write ≠ .requested →
    exec (.response t answer data) s = .next { s with port := { s.port with
      tags := s.port.tags.set t.val (.busy (.passThrough r) 0 s.port.timeout)
      waiting := rest, lastGranted := .passThrough } }) ∧
  (∀ (s p : State) (c : Instr) (t : TagId) (r : PassRequest) (n m : Nat) (answer : Answer) (data : Word) (pre : State)
    (post : State → State), TakesEvents s → EndsRequestIn s c t answer data pre post →
    s.tag t = .busy (.passThrough r) n m → p = passEnded pre r (passResult r answer data) →
    ((p.engine.state ≠ .settling ∨ ∀ g, p.engine.group = some g → p.settleCount g ≠ 0) →
      ∃ v, exec c s = .next v ∧ Granted (post p) v) ∧
    (∀ g, p.engine.state = .settling → p.engine.group = some g → p.settleCount g = 0 →
      (∀ e, StandsAt p g e → ∃ v, exec c s = .next v ∧
        Granted (post { p with engine := { p.engine with state := .draining, write := .requested, copy := some e } }) v) ∧
      (WalkedToEnd p g → ∃ v, exec c s = .next v ∧
        GoesOn (released (p.completeGroup g p.engine.written p.engine.failed) g) post v)))

/-! ## The release engine -/

/-- R26, R81, R82, R83, R84, R98: TAKING, and SETTLING_END. An engine that is not IDLE, or finds the queue empty, takes
nothing. Otherwise the head of the queue goes to RELEASING, and the engine waits in SETTLING while its settle count is above
0; with the count at 0 it enters DRAINING and asks for the write of the entry at position 0, which is issued at once on the
lowest-numbered FREE tag when no other request waits, and waits REQUESTED while no tag is FREE. SETTLING_END does the same
for a release whose settle count has come to 0, and nothing otherwise. -/
def Obligations.TakingStartsTheRelease : Prop :=
  (∀ (s : State), TakesEvents s → (s.engine.state ≠ .idle ∨ s.launchQueue = []) → exec .taking s = .next s) ∧
  (∀ (s : State) (g : GroupId) (rest : List GroupId), TakesEvents s → s.engine.state = .idle →
    s.launchQueue = g :: rest →
    (s.settleCount g ≠ 0 → (NoFreeTag s.port ∨ s.port.waiting = []) →
      exec .taking s = .next { headTaken s g rest with engine := contextTaken s g }) ∧
    (∀ e es, s.settleCount g = 0 → (s.group g).entries = e :: es → NoFreeTag s.port →
      exec .taking s = .next { headTaken s g rest with
        engine := { contextTaken s g with state := .draining, write := .requested, copy := some e } }) ∧
    (∀ e es t, s.settleCount g = 0 → (s.group g).entries = e :: es → IsLowestFree s.port t → s.port.waiting = [] →
      exec .taking s =
        .next (writeIssued (headTaken s g rest) { contextTaken s g with state := .draining } t e))) ∧
  (∀ (s : State), TakesEvents s →
    (s.engine.state ≠ .settling ∨ ∀ g, s.engine.group = some g → s.settleCount g ≠ 0) →
    exec .settlingEnd s = .next s) ∧
  (∀ (s : State) (g : GroupId) (e : Entry), TakesEvents s → s.engine.state = .settling →
    s.engine.group = some g → s.settleCount g = 0 →
    (s.engine.kind = some .oneShot ∧ (s.group g).entries[0]? = some e ∨
      s.engine.kind = some .repeating ∧ (s.group g).entries[s.engine.cursor]? = some e) →
    (NoFreeTag s.port → exec .settlingEnd s =
      .next { s with engine := { s.engine with state := .draining, write := .requested, copy := some e } }) ∧
    (∀ t, IsLowestFree s.port t → s.port.waiting = [] → exec .settlingEnd s =
      .next (writeIssued s { s.engine with state := .draining } t e)))

/-- R27, R85, R86, R88, R89: the completion of a release whose list has been walked to its end: by RELEASE_COMPLETION, by
the end of the last write, and by the taking of a group with an empty list. The group completes
(CompletionFiresTheSuccessors), the engine becomes IDLE and the fence on the group lifts. Then the event goes on with
the taking of the next group; but after the taking of an empty list the engine takes no further group in that event.
R151: with nothing to fire, no request waiting for a tag and, but for that taking, an empty launch queue, in one line: the
sequence number rises, the last release result becomes the counts, the RELEASED record carries the flags as they were, the
missed-launch and collision counts are reported beside it (log 27), the flags and counts are cleared, and the group
goes to IDLE, or with repeats left to ARMED with one less and a fresh deadline. RELEASE_COMPLETION does nothing while the
list has not been walked to its end. Heads may be judged before the next taking: how many is a free value (log 4), and that
nothing comes between two beats of such a judgement is the model's choice (DESIGN CHOICE, log 30). -/
def Obligations.ReleaseCompletes : Prop :=
  (∀ (s : State) (g : GroupId), TakesEvents s → s.engine.state = .draining → s.engine.write = .none →
    s.engine.group = some g →
    (s.engine.kind = some .oneShot ∧ (s.group g).entries = [] ∨
      s.engine.kind = some .repeating ∧ (s.group g).entries.length ≤ s.engine.cursor) →
    FiresNothing s g → s.launchQueue = [] → s.port.waiting = [] →
    exec .releaseCompletion s = .next (releaseCompleted s g s.engine.written s.engine.failed)) ∧
  (∀ (s : State) (g : GroupId) (rest : List GroupId), TakesEvents s → s.engine.state = .idle →
    s.launchQueue = g :: rest → s.settleCount g = 0 → (s.group g).entries = [] → FiresNothing s g →
    s.port.waiting = [] →
    exec .taking s = .next (releaseCompleted (headTaken s g rest) g 0 0)) ∧
  (∀ (s : State), TakesEvents s → (s.engine.state ≠ .draining ∨ s.engine.write ≠ .none ∨ s.nextEntry ≠ none) →
    exec .releaseCompletion s = .next s) ∧
  (∀ (s : State) (g : GroupId), TakesEvents s → s.engine.state = .draining → s.engine.write = .none →
    s.engine.group = some g → WalkedToEnd s g →
    ∃ v, exec .releaseCompletion s = .next v ∧
      GoesOn (released (s.completeGroup g s.engine.written s.engine.failed) g) id v) ∧
  (∀ (s : State) (g : GroupId) (rest : List GroupId), TakesEvents s → s.engine.state = .idle → s.launchQueue = g :: rest →
    s.settleCount g = 0 → (s.group g).entries = [] →
    ∃ v, exec .taking s = .next v ∧ Granted (released ((headTaken s g rest).completeGroup g 0 0) g) v) ∧
  (∀ (s : State) (c : Instr) (t : TagId) (answer : Answer) (data : Word) (pre : State) (post : State → State) (g : GroupId)
    (w : Entry) (n m : Nat) (walked : State), TakesEvents s → EndsRequestIn s c t answer data pre post →
    s.tag t = .busy (.release w) n m → s.engine.state = .draining → s.engine.group = some g →
    (answer = .okay ∨ (s.group g).config.errorPolicy = .carryOn) →
    ((∃ e0, s.engine.kind = some .oneShot ∧ (s.group g).entries = [e0] ∧
        walked = { pre.setGroup g { s.group g with entries := [] } with free := s.free + 1 }) ∨
      (s.engine.kind = some .repeating ∧ (s.group g).entries.length ≤ s.engine.cursor + 1 ∧ walked = pre)) →
    ∃ v, exec c s = .next v ∧
      GoesOn (released (walked.completeGroup g
        (if answer = .okay then s.engine.written + 1 else s.engine.written)
        (if answer = .okay then s.engine.failed else s.engine.failed + 1)) g) post v)

/-- R5, R24, R27, R133, R137, R139, R140: the completion of a release of g fires every group with the condition AFTER(g),
and g itself when it has returned to ARMED with IMMEDIATE: an ARMED one goes to PENDING and is appended to the launch
queue, in ascending group number, and a PENDING or RELEASING one counts a missed launch. No other group record changes.
The RELEASED record carries the flags as they were and the written and failed counts; the missed-launch count and the
collision count as they were are reported beside it, in a field of the model's own, and the record does not give them
(R151, log 27); a one-shot release frees what it still holds; nothing else changes. -/
def Obligations.CompletionFiresTheSuccessors : Prop :=
  ∀ (s : State) (g : GroupId) (written failed : Nat), (s.group g).condition ≠ some (.after g) →
    (∀ k : GroupId, k ≠ g → (s.completeGroup g written failed).group k =
      if (s.group k).condition = some (.after g) then firedRecord (s.group k) else s.group k) ∧
    (s.completeGroup g written failed).group g =
      (if 0 < (s.group g).repeatsRemaining ∧ (s.group g).condition = some .immediate then
        firedRecord (completedRecord (s.group g) written failed)
      else completedRecord (s.group g) written failed) ∧
    (∃ fired : List GroupId, fired.Pairwise (· < ·) ∧
      (∀ k, k ∈ fired ↔
        k ≠ g ∧ (s.group k).state = .armed ∧ (s.group k).condition = some (.after g) ∨
        k = g ∧ 0 < (s.group g).repeatsRemaining ∧ (s.group g).condition = some .immediate) ∧
      s.completeGroup g written failed =
        { withRecord s (releaseRecord s .released g ⟨(s.group g).sequence + 1, written, failed⟩
            (flagsOf (s.group g))) with
          reported := countsReported s g
          groups := (s.completeGroup g written failed).groups
          launchQueue := s.launchQueue ++ fired
          free := if (s.group g).repeatsRemaining = 0 then s.free + (s.group g).entries.length else s.free })

/-- R42, R43, R84, R85, R86, R98: a release write of g that is answered OKAY, or that fails under CONTINUE, while the engine
is DRAINING: the outcome is counted, a one-shot release frees the entry at position 0 and a repeating one moves the cursor
past it, and the write of the next entry is asked for in the same event. Then the tags are granted, the freed one among
them, and DOWNSTREAM_STUCK has come first when the timeout abandoned the fourth tag (R102). With no other request waiting the
write is issued on the lowest-numbered tag that is then FREE, and after a timeout with no tag FREE it waits REQUESTED. When
pass-through requests wait, the one freed tag goes to the side that was not granted last. -/
def Obligations.ReleaseWalksOn : Prop :=
  (∀ (s : State) (c : Instr) (t : TagId) (answer : Answer) (data : Word) (pre : State) (post : State → State) (g : GroupId)
    (e w : Entry) (n m : Nat) (walked : State) (context : Engine), TakesEvents s →
    EndsRequestIn s c t answer data pre post → s.tag t = .busy (.release w) n m → s.engine.state = .draining →
    s.engine.group = some g → (answer = .okay ∨ (s.group g).config.errorPolicy = .carryOn) →
    ((∃ e0 es, s.engine.kind = some .oneShot ∧ (s.group g).entries = e0 :: e :: es ∧
        walked = { pre.setGroup g { s.group g with entries := e :: es } with free := s.free + 1 } ∧
        context.cursor = s.engine.cursor) ∨
      (s.engine.kind = some .repeating ∧ (s.group g).entries[s.engine.cursor + 1]? = some e ∧ walked = pre ∧
        context.cursor = s.engine.cursor + 1)) →
    context = { s.engine with
      written := if answer = .okay then s.engine.written + 1 else s.engine.written
      failed := if answer = .okay then s.engine.failed else s.engine.failed + 1
      cursor := context.cursor, write := .requested, copy := some e } →
    (∃ v, exec c s = .next v ∧ Granted (post { walked with engine := context }) v) ∧
    (∀ (r : PassRequest) (rest : List PassRequest), c = .response t answer data → NoFreeTag s.port →
      s.port.waiting = r :: rest →
      (s.port.lastGranted = .passThrough → exec c s = .next (writeIssued walked context t e)) ∧
      (s.port.lastGranted = .release → exec c s = .next { walked with
        port := { s.port with
          tags := s.port.tags.set t.val (.busy (.passThrough r) 0 s.port.timeout)
          waiting := rest, lastGranted := .passThrough }
        engine := context }))) ∧
  ∀ (s : State) (c : Instr) (t : TagId) (x : TagState) (answer : Answer) (g : GroupId) (e w : Entry) (n m : Nat)
    (walked : State) (context : Engine), TakesEvents s → EndsRequest c t answer x →
    s.tag t = .busy (.release w) n m → s.engine.state = .draining → s.engine.group = some g →
    (answer = .okay ∨ (s.group g).config.errorPolicy = .carryOn) →
    ((∃ e0 es, s.engine.kind = some .oneShot ∧ (s.group g).entries = e0 :: e :: es ∧
        walked = { s.setGroup g { s.group g with entries := e :: es } with free := s.free + 1 } ∧
        context.cursor = s.engine.cursor) ∨
      (s.engine.kind = some .repeating ∧ (s.group g).entries[s.engine.cursor + 1]? = some e ∧ walked = s ∧
        context.cursor = s.engine.cursor + 1)) →
    context = { s.engine with
      written := if answer = .okay then s.engine.written + 1 else s.engine.written
      failed := if answer = .okay then s.engine.failed else s.engine.failed + 1
      cursor := context.cursor } →
    (∃ u, u ≠ t ∧ s.tag u ≠ .abandoned) →
    (∀ t', IsLowestFree (withTag s t x).port t' → s.port.waiting = [] →
      exec c s = .next (writeIssued (withTag walked t x) context t' e)) ∧
    (NoFreeTag (withTag s t x).port →
      exec c s = .next { withTag walked t x with engine := { context with write := .requested, copy := some e } })

/-- R28, R44, R87, R89, R151: a release write of g that fails under ABORT while the engine is DRAINING ends the release as a
fault, in every state of the port and the queues: the sequence number rises, the written count and a failed count of 1
become the last release result, a RELEASE_FAULT record carries the flags as they are, behind the DOWNSTREAM_STUCK record
of a timeout that has abandoned the fourth tag (R102); the group goes to FAULTED with its entries, check code, flags and
counts kept, its successors are broken, the engine goes to IDLE, the fence on it lifts, and the event goes on with the
taking of the next group.
R29, R91, R45, R46: the end of a release write while the engine is STOPPING ends the stop, whatever its outcome and the
error policy. After a discard the outcome is counted, the sequence number rises, a DISCARDED record with all flags clear is
queued, the group goes to IDLE with all its entries freed, and its successors are broken. After a SOFT_RESET no group record
changes, no record is queued and the counts are dropped. In both cases the event goes on with the taking of the next group.
With no successor, an empty launch queue, no request waiting and the port not STUCK, each in one line. Heads may be judged
before the next taking: how many is a free value (log 4), and that nothing comes between two beats of such a judgement is
the model's choice (DESIGN CHOICE, log 30). The order of the CHAIN_BROKEN records of a transitive break is the model's
choice (DESIGN CHOICE, log 31). -/
def Obligations.FaultsAndStopsEndTheRelease : Prop :=
  (∀ (s : State) (c : Instr) (t : TagId) (data : Word) (pre : State) (post : State → State) (g : GroupId) (w : Entry)
    (n m : Nat), TakesEvents s → EndsRequestIn s c t .error data pre post → s.tag t = .busy (.release w) n m →
    s.engine.state = .draining → s.engine.group = some g → (s.group g).config.errorPolicy = .abort →
    ∃ b v, Broke (faultRecorded pre g s.engine.written) g b ∧ exec c s = .next v ∧ GoesOn (released b g) post v) ∧
  (∀ (s : State) (c : Instr) (t : TagId) (answer : Answer) (data : Word) (pre : State) (post : State → State) (g : GroupId)
    (w : Entry) (n m : Nat), TakesEvents s → EndsRequestIn s c t answer data pre post →
    s.tag t = .busy (.release w) n m → s.engine.state = .stopping → s.engine.group = some g →
    (s.engine.cause = some .discard → ∃ b v,
      Broke (discardRecorded pre g
        (if answer = .okay then s.engine.written + 1 else s.engine.written)
        (if answer = .okay then s.engine.failed else s.engine.failed + 1)) g b ∧
      exec c s = .next v ∧ GoesOn (released b g) post v) ∧
    (s.engine.cause = some .softReset → ∃ v, exec c s = .next v ∧ GoesOn (released pre g) post v)) ∧
  (∀ (s : State) (c : Instr) (t : TagId) (x : TagState) (g : GroupId) (w : Entry) (n m : Nat), TakesEvents s →
    EndsRequest c t .error x → s.tag t = .busy (.release w) n m → s.engine.state = .draining →
    s.engine.group = some g → s.engine.cause = none → (s.group g).config.errorPolicy = .abort → NoSuccessor s g →
    s.launchQueue = [] → s.port.waiting = [] → (∃ u, u ≠ t ∧ s.tag u ≠ .abandoned) →
    exec c s = .next { withRecord
        (withTag (s.setGroup g { s.group g with
          state := .faulted, condition := none, deadlineRemaining := none, repeatsRemaining := 0
          sequence := (s.group g).sequence + 1, lastWritten := s.engine.written, lastFailed := 1 }) t x)
        (releaseRecord s .releaseFault g ⟨(s.group g).sequence + 1, s.engine.written, 1⟩
          (flagsOf (s.group g))) with
      engine := {}
      fencedOn := if s.fencedOn = some g then none else s.fencedOn }) ∧
  (∀ (s : State) (c : Instr) (t : TagId) (x : TagState) (answer : Answer) (g : GroupId) (w : Entry) (n m : Nat)
    (written failed : Nat), TakesEvents s →
    EndsRequest c t answer x → s.tag t = .busy (.release w) n m → s.engine.state = .stopping →
    s.engine.group = some g → s.launchQueue = [] → s.port.waiting = [] → (∃ u, u ≠ t ∧ s.tag u ≠ .abandoned) →
    written = (if answer = .okay then s.engine.written + 1 else s.engine.written) →
    failed = (if answer = .okay then s.engine.failed else s.engine.failed + 1) →
    (s.engine.cause = some .discard → NoSuccessor s g → exec c s = .next { withRecord
        (withTag (s.setGroup g { s.group g with
          state := .idle, entries := [], condition := none, deadlineRemaining := none, repeatsRemaining := 0
          checkCode := none, sequence := (s.group g).sequence + 1, lastWritten := written, lastFailed := failed }) t x)
        (releaseRecord s .discarded g ⟨(s.group g).sequence + 1, written, failed⟩ {}) with
      free := s.free + (s.group g).entries.length
      engine := {}
      fencedOn := if s.fencedOn = some g then none else s.fencedOn }) ∧
    (s.engine.cause = some .softReset → s.fencedOn ≠ some g →
      exec c s = .next { withTag s t x with engine := {} }))

/-! ## The timebase and the launch unit -/

/-- R109, R110, R111, R116: LINE_TIMER_EXPIRY. In every state the timebase makes a generated frame mark when the line
counter plus one is at or above the frame limit of its lock state, going from LOCKED to FLYWHEEL; otherwise the line
counter rises by one, or stays at 4095. The mark made is handed to the launch unit (MarksFireAndExpire) with the
counters as they stand after it, behind the SYNC_LOST record of a loss of sync; an expiry at 4095 hands over none. While
no group holds a launch condition or a deadline nothing else changes, but for the SYNC_LOST record of a loss of sync,
stamped with the new frame and line 0. -/
def Obligations.LineTimerMakesTheMarks : Prop :=
  (∀ s : State, TakesEvents s →
    ∃ t, exec .lineTimerExpiry s = .next t ∧ Expired s.timebase t.timebase) ∧
  (∀ (s : State) (tb : Timebase), TakesEvents s → Expired s.timebase tb → exec .lineTimerExpiry s = .next
    (if AtFrameLimit s.timebase then
      (if s.timebase.lock = .locked then withRecord { s with timebase := tb } (syncRecord tb .syncLost)
        else { s with timebase := tb }).takeMark ⟨.frame, tb.frame, 0⟩
    else if s.timebase.line = 4095 then { s with timebase := tb }
    else ({ s with timebase := tb } : State).takeMark ⟨.line, tb.frame, tb.line⟩)) ∧
  (∀ (s : State) (tb : Timebase), TakesEvents s → Expired s.timebase tb →
    (∀ g : GroupId, (s.group g).condition = none ∧ (s.group g).deadlineRemaining = none) →
    exec .lineTimerExpiry s = .next
      (if s.timebase.lock = .locked ∧ AtFrameLimit s.timebase then
        withRecord { s with timebase := tb } (syncRecord tb .syncLost)
      else { s with timebase := tb }))

/-- R112, R113, R114, R115, R117, R190: FSYNC_EDGE with both levels sampled at least twice, or with the low level sampled
fewer times after a rise that was missed, so that of two close edges one at least is seen. In INTERNAL mode it changes
nothing but the note of a missed rise. In EXTERNAL mode, in each of its three lock states, it makes a frame mark and the
lock state becomes LOCKED; the mark is handed to the launch unit (MarksFireAndExpire), behind the SYNC_REGAINED record
of a regain in FLYWHEEL. While no group holds a launch condition or a deadline nothing else changes, but for the
SYNC_REGAINED record of a regain in FLYWHEEL. Any other pulse is taken as an edge or not (a free value), and one that is
not, after a low level long enough, is noted as missed (the note is the model's own, log 5). -/
def Obligations.FsyncMakesTheFrames : Prop :=
  (∀ (s : State) (low high : Nat), TakesEvents s → s.timebase.mode = .internal →
    EdgeCertain s.missedEdges.fsync low high → exec (.fsyncEdge low high) s = .next (fsyncNoted s false)) ∧
  (∀ (s : State) (low high : Nat), TakesEvents s → s.timebase.mode = .external → s.timebase.lock ≠ .none →
    EdgeCertain s.missedEdges.fsync low high → ∃ t, exec (.fsyncEdge low high) s = .next t ∧
      t.timebase = { frameMarked s.timebase with lock := .locked }) ∧
  (∀ (s u : State) (low high : Nat) (tb : Timebase), TakesEvents s → s.timebase.mode = .external →
    s.timebase.lock ≠ .none → EdgeCertain s.missedEdges.fsync low high → u = fsyncNoted s false →
    tb = { frameMarked s.timebase with lock := .locked } →
    exec (.fsyncEdge low high) s = .next
      ((if s.timebase.lock = .flywheel then withRecord { u with timebase := tb } (syncRecord tb .syncRegained)
        else { u with timebase := tb }).takeMark ⟨.frame, tb.frame, 0⟩)) ∧
  (∀ (s u : State) (low high : Nat) (tb : Timebase), TakesEvents s → s.timebase.mode = .external →
    s.timebase.lock ≠ .none → EdgeCertain s.missedEdges.fsync low high → u = fsyncNoted s false →
    tb = { frameMarked s.timebase with lock := .locked } →
    (∀ g : GroupId, (s.group g).condition = none ∧ (s.group g).deadlineRemaining = none) →
    exec (.fsyncEdge low high) s = .next
      (if s.timebase.lock = .flywheel then withRecord { u with timebase := tb } (syncRecord tb .syncRegained)
      else { u with timebase := tb })) ∧
  (∀ (s : State) (low high : Nat), TakesEvents s → ¬ EdgeCertain s.missedEdges.fsync low high →
    exec (.fsyncEdge low high) s = .next (fsyncNoted { s with freeIndex := s.freeIndex + 1 } (decide (2 ≤ low))) ∨
    exec (.fsyncEdge low high) s = exec (.fsyncEdge 2 2) { s with freeIndex := s.freeIndex + 1 })

/-- R24, R25, R128, R133, R134, R138, R139, R140, R142, R143, R146, R154: what a mark does, for groups whose deadlines are
above 0. A frame mark first lowers the deadline of every ARMED group that it does not fire. Then the notices are acted
on in ascending group number: a firing notice, or an expiry notice of a deadline that has come to 0, which forces the
launch, or queues DEADLINE_CANCELLED, empties the group and breaks its successors. Only then an IDLE engine takes the
head, when groups were appended to the launch queue.
In one line for a mark that cancels no group: a group whose condition the mark fires goes from ARMED to PENDING, or counts a
missed launch while PENDING or RELEASING; its deadline is not lowered. On a frame mark every other ARMED group with a
deadline has it lowered by one, and one that comes to 0 under FORCE goes to PENDING with FORCED set. The groups that become
PENDING are appended to the launch queue in ascending group number, nothing else changes, and only then an IDLE engine takes
the head. The order of the CHAIN_BROKEN records of a transitive break is the model's choice (DESIGN CHOICE, log 31). -/
def Obligations.MarksFireAndExpire : Prop :=
  (∀ (p : LaunchPoint) (m : Mark), p.fires m = true ↔ PointFires p m) ∧
  (∀ (s : State) (m : Mark), TakesEvents s → (∀ g : GroupId, (s.group g).deadlineRemaining ≠ some 0) →
    ∃ u : Fin 9 → State,
      (∀ g : GroupId, (u 0).group g =
        if m.kind = .frame ∧ ¬ MarkFires s m g then loweredRecord (s.group g) else s.group g) ∧
      u 0 = { s with groups := (u 0).groups } ∧
      (∀ g : GroupId, NoticeTaken (MarkFires s m g) (u g.castSucc) g (u g.succ)) ∧
      ((s.engine.state ≠ .idle ∨ (u 8).launchQueue = s.launchQueue) → s.takeMark m = u 8) ∧
      (s.engine.state = .idle → (u 8).launchQueue ≠ s.launchQueue → exec .taking (u 8) = .next (s.takeMark m))) ∧
  (∀ (s : State) (m : Mark), TakesEvents s →
    (∀ g : GroupId, (s.group g).deadlineRemaining ≠ some 0) →
    (∀ g : GroupId, m.kind = .frame → ¬ MarkFires s m g → (s.group g).state = .armed →
      (s.group g).deadlineRemaining = some 1 → (s.group g).config.deadlineAction = .force) →
    ∃ (u : State) (queued : List GroupId),
      (∀ g : GroupId,
        (MarkFires s m g → u.group g = firedRecord (s.group g)) ∧
        (¬ MarkFires s m g → (m.kind = .line ∨ (s.group g).state ≠ .armed ∨ (s.group g).deadlineRemaining = none) →
          u.group g = s.group g) ∧
        (∀ n, ¬ MarkFires s m g → m.kind = .frame → (s.group g).state = .armed →
          (s.group g).deadlineRemaining = some (n + 1) → u.group g =
            if n = 0 then { s.group g with state := .pending, deadlineRemaining := none, forced := true }
            else { s.group g with deadlineRemaining := some n })) ∧
      queued.Pairwise (· < ·) ∧ (∀ g : GroupId, g ∈ queued ↔ (s.group g).state = .armed ∧ (u.group g).state = .pending) ∧
      u = { s with groups := u.groups, launchQueue := s.launchQueue ++ queued } ∧
      ((s.engine.state ≠ .idle ∨ queued = []) → s.takeMark m = u) ∧
      (s.engine.state = .idle → queued ≠ [] → exec .taking u = .next (s.takeMark m)))

/-- R135, R139, R140, R190: TRIG_EDGE with both levels sampled at least twice, or with the low level sampled fewer times
after a rise that was missed, so that of two close edges one at least is seen, fires every group with the condition
TRIG, in ascending group number: an ARMED one goes to PENDING and is appended to the launch queue, a PENDING or
RELEASING one counts a missed launch, and no other record changes; only then an IDLE engine takes the head. Any other
pulse is taken as an edge or not (a free value), and one that is not, after a low level long enough, is noted as missed
(the note is the model's own, log 5). In every case the last level seen is that of the last samples (R126, log 5). A
TRIG that has stayed high since a rise that was not missed is no edge. -/
def Obligations.TrigFiresItsGroups : Prop :=
  (∀ (s : State) (low high : Nat), TakesEvents s → EdgeCertain s.missedEdges.trig low high →
    ∃ (u : State) (queued : List GroupId),
      (∀ g : GroupId, u.group g =
        if (s.group g).condition = some .trig then firedRecord (s.group g) else s.group g) ∧
      queued.Pairwise (· < ·) ∧
      (∀ g : GroupId, g ∈ queued ↔ (s.group g).state = .armed ∧ (s.group g).condition = some .trig) ∧
      u = { trigNoted s low high false with groups := u.groups, launchQueue := s.launchQueue ++ queued } ∧
      ((s.engine.state ≠ .idle ∨ queued = []) → exec (.trigEdge low high) s = .next u) ∧
      (s.engine.state = .idle → queued ≠ [] → exec (.trigEdge low high) s = exec .taking u)) ∧
  (∀ (s : State) (high : Nat), TakesEvents s → s.trigLevel = true → s.missedEdges.trig = false →
    exec (.trigEdge 0 high) s = .next s) ∧
  (∀ (s : State) (low high : Nat), TakesEvents s → ¬ EdgeCertain s.missedEdges.trig low high →
    (s.trigLevel = false ∨ low ≠ 0) →
    (exec (.trigEdge low high) s =
        .next (trigNoted { s with freeIndex := s.freeIndex + 1 } low high (decide (2 ≤ low))) ∨
      ∃ u, exec (.trigEdge 2 2) { s with freeIndex := s.freeIndex + 1 } = .next u ∧
        exec (.trigEdge low high) s =
          .next { u with trigLevel := if 0 < high then true else if 0 < low then false else s.trigLevel }))

/-- R25, R142: the expiry notice of g, which acts while g is ARMED in the wait in which its deadline has come to 0 and does
nothing otherwise (the model holds that as a deadline of 0, log 8). Under FORCE g goes to PENDING with FORCED set at the
end of the launch queue, and an IDLE engine then takes the head. Under CANCEL a DEADLINE_CANCELLED record is queued, g
goes to IDLE with its entries freed, its sequence number and last release result are kept, and its successors are
broken. The order of the CHAIN_BROKEN records of a transitive break is the model's choice (DESIGN CHOICE, log 31). -/
def Obligations.DeadlineExpiryForcesOrCancels : Prop :=
  ∀ (s p : State) (g : GroupId), TakesEvents s →
    p = { s.setGroup g { s.group g with state := .pending, deadlineRemaining := none, forced := true } with
          launchQueue := s.launchQueue ++ [g] } →
    ((s.group g).state ≠ .armed ∨ (s.group g).deadlineRemaining ≠ some 0 → exec (.deadlineExpiry g) s = .next s) ∧
    ((s.group g).state = .armed → (s.group g).deadlineRemaining = some 0 →
      (s.group g).config.deadlineAction = .force →
      (s.engine.state ≠ .idle → exec (.deadlineExpiry g) s = .next p) ∧
      (s.engine.state = .idle → exec (.deadlineExpiry g) s = exec .taking p)) ∧
    ((s.group g).state = .armed → (s.group g).deadlineRemaining = some 0 →
      (s.group g).config.deadlineAction = .cancel →
      ∃ b, Broke (cancelRecorded s g) g b ∧ exec (.deadlineExpiry g) s = .next b) ∧
    ((s.group g).state = .armed → (s.group g).deadlineRemaining = some 0 →
      (s.group g).config.deadlineAction = .cancel → NoSuccessor s g →
      exec (.deadlineExpiry g) s = .next { withRecord
          (s.setGroup g { s.group g with
            state := .idle, entries := [], condition := none, deadlineRemaining := none, repeatsRemaining := 0
            checkCode := none })
          (plainRecord s .deadlineCancelled (some g)) with
        free := s.free + (s.group g).entries.length })

/-! ## The completion queue -/

/-- R153, R158, R125: the offer of a record. Below 32 records it is stored at the end with the lost counter in its lost
field, which becomes 0, and the urgent count rises by one for the six urgent kinds; at 32 it is dropped and the lost
counter rises, up to 255. The stamp is the frame and line of the timebase, and IRQ_N is set anew. -/
def Obligations.OfferStoresOrDrops : Prop :=
  ∀ (s t : State) (kind : RecordKind) (group : Option GroupId) (report : Option ReleaseReport) (flags : RecordFlags),
    t = s.offer kind group report flags →
    (s.completions.records.length < 32 →
      t.completions.records = s.completions.records ++
        [⟨kind, group, report, s.timebase.frame, s.timebase.line, flags, s.completions.lost⟩] ∧
      t.completions.lost = 0 ∧
      t.completions.urgent = s.completions.urgent +
        (if kind ∈ ([.releaseFault, .deadlineCancelled, .chainBroken, .overflow, .syncLost, .downstreamStuck] :
          List RecordKind) then 1 else 0)) ∧
    (32 ≤ s.completions.records.length → t.completions = { s.completions with lost := min (s.completions.lost + 1) 255 }) ∧
    (t.irqLow = true ↔ s.irq.master = true ∧
      (s.irq.threshold ≤ t.completions.records.length ∨ s.irq.urgent = true ∧ 0 < t.completions.urgent)) ∧
    t = { s with completions := t.completions, irqLow := t.irqLow }

/-! ## What every step keeps -/

/-- The invariants below hold of the part right after reset. -/
def Obligations.InvariantsHoldAtReset : Prop :=
  PoolBalance State.reset ∧ EntriesWellFormed State.reset ∧ ListsWithinCap State.reset ∧ Coordinated State.reset ∧
    AfterAcyclic State.reset ∧ IssuedHoldsTag State.reset ∧ TagCarriesCopy State.reset ∧ NoGrantDue State.reset ∧
    TimeoutsInRange State.reset ∧ OutputsQuiet State.reset ∧
    WriteCarriesHeldEntry State.reset ∧ SettleCountsRequests State.reset ∧ NoMarkedRequestInDraining State.reset ∧
    CompletionsInRange State.reset ∧ TimebaseInRange State.reset.timebase ∧ PointsInRange State.reset ∧
    WindowsInRange State.reset ∧ IngressInOrder State.reset ∧ IngressNamed State.reset

/-- R31: free entry slots plus the entries held by all eight groups always number 1024. -/
def Obligations.PoolBalanceIsKept : Prop := ∀ s t : State, PoolBalance s → step s = .next t → PoolBalance t

/-- R30, R34, R52: every entry held stands at a word address, has a mask of 1 to 15 and holds 0x00 outside it, and every
transaction of the ingress queue is one of R52.
R32, R35: a group in IDLE holds no entry, a list is never longer than the group's cap, and a COALESCE list holds at most
one entry for each word. -/
def Obligations.EntriesAndListsStayWellFormed : Prop :=
  (∀ s t : State, EntriesWellFormed s → (∀ c ∈ s.pending, c.wellFormed = true) →
  step s = .next t → EntriesWellFormed t) ∧
  (∀ s t : State, ListsWithinCap s → step s = .next t → ListsWithinCap t)

/-- R3, R9, R26, R64, R80, R81, R89, R141, R145: the group records, the launch queue, the release engine and the fence agree:
a group is RELEASING exactly while the engine holds it in a release that SOFT_RESET has not stopped, so at most one is; the
launch queue holds a group's number exactly while it is PENDING, and once; a fenced head waits on a RELEASING group; and the
fields of each record and of the release context are present in exactly the states the manual gives.
R15: no group's AFTER condition names the group itself, and the AFTER conditions form no cycle. -/
def Obligations.GroupsQueueEngineAndFenceAgree : Prop :=
  (∀ s t : State, Coordinated s → step s = .next t → Coordinated t) ∧
  (∀ s t : State, AfterAcyclic s → step s = .next t → AfterAcyclic t)

/-- R84, R46: every release write that waits for a tag or is issued carries the entry that stands next in the list of the
group being released, until SOFT_RESET frees that list.
R80, R95: the write state is ISSUED exactly while one tag carries a release write, and no more than one ever does.
R80, R99: the entry that the tag carries to the target is the engine's write copy. -/
def Obligations.ReleaseWritesCarryHeldEntries : Prop :=
  (∀ s t : State, Coordinated s → WriteCarriesHeldEntry s → step s = .next t → WriteCarriesHeldEntry t) ∧
  (∀ s t : State, Coordinated s → IssuedHoldsTag s → step s = .next t → IssuedHoldsTag t) ∧
  (∀ s t : State, Coordinated s → IssuedHoldsTag s → TagCarriesCopy s → step s = .next t → TagCarriesCopy t)

/-- R63, R65, R83, R97: the settle counts number the unfinished requests with each mark, and while the engine is DRAINING no
request with the settle mark of its group is unfinished at the memory port: the fence lets none through.
R98: no request waits while a tag is FREE. -/
def Obligations.DrainingMeetsNoEarlierTraffic : Prop :=
  (∀ s t : State, Coordinated s → SettleCountsRequests s → NoMarkedRequestInDraining s → step s = .next t →
    SettleCountsRequests t ∧ NoMarkedRequestInDraining t) ∧
  (∀ s t : State, Coordinated s → NoGrantDue s → step s = .next t → NoGrantDue t)

/-- R107, R108, R127, R152, R158, R159: the line counter stays at or below 4095 and the lock state is NONE exactly in
INTERNAL mode; the completion queue holds at most 32 records, its counts are right and IRQ_N has the level of R158; the
values that configure them, the launch points and the windows stay in their ranges.
R99, R103: the response timeout is 256 to 65535, and so is the one that each BUSY tag was issued with.
R168, R190: between two frames SDO is driven only while a CS_N that was low when the part left reset has not risen; in reset
SDO is not driven, IRQ_N is released, and no request waits or is issued. -/
def Obligations.RangesAreKept : Prop :=
  ∀ s t : State, step s = .next t →
    (TimebaseInRange s.timebase → TimebaseInRange t.timebase) ∧ (CompletionsInRange s → CompletionsInRange t) ∧
    (PointsInRange s → PointsInRange t) ∧ (WindowsInRange s → WindowsInRange t) ∧
    (TimeoutsInRange s → TimeoutsInRange t) ∧ (OutputsQuiet s → OutputsQuiet t)

/-- R52, R54, R56: the ingress queue holds at most 8 transactions under distinct names; a WAITING one has no outcome and a
DISPATCHED one has an outcome for each beat; and none is DISPATCHED behind a WAITING one. -/
def Obligations.IngressStaysInOrder : Prop :=
  ∀ s t : State, IngressInOrder s → IngressNamed s → step s = .next t → IngressInOrder t ∧ IngressNamed t

/-- R2, R11, R57, R103, R127, R159: apart from the resets of the whole part, the configuration part of a group changes only
by GROUP_CONFIG, the window table only by WINDOW_SET and WINDOW_CLEAR, the launch points only by POINT_SET, the response
timeout only by PORT_CONFIG, the configuration of the timebase only by TIMEBASE_CONFIG and that of IRQ_N only by
IRQ_CONFIG. No command changes the queue of the commands behind it, which is the model's own (log 6). -/
def Obligations.ConfigurationChangesOnlyByItsCommand : Prop :=
  ∀ (c : Instr) (s t : State), exec c s = .next t → t.pending = s.pending ∧
    (c ≠ .powerOnReset → (∀ n, c ≠ .rstN n) →
      ((∀ f, c ≠ .groupConfig f) → ∀ g : GroupId, (t.group g).config = (s.group g).config) ∧
      ((∀ f, c ≠ .windowSet f) → (∀ f, c ≠ .windowClear f) → t.windows = s.windows) ∧
      ((∀ f, c ≠ .pointSet f) → t.points = s.points) ∧
      ((∀ f, c ≠ .portConfig f) → t.port.timeout = s.port.timeout) ∧
      ((∀ f, c ≠ .timebaseConfig f) → t.timebase.mode = s.timebase.mode ∧
        t.timebase.linePeriod = s.timebase.linePeriod ∧ t.timebase.lines = s.timebase.lines ∧
        t.timebase.tolerance = s.timebase.tolerance) ∧
      ((∀ f, c ≠ .irqConfig f) → t.irq = s.irq))

/-- R152, R153, R161: records leave the completion queue only by QUEUE_POP, SOFT_RESET, POWER_ON_RESET and RST_N: every other
command only adds records at its end. -/
def Obligations.RecordsLeaveOnlyByTheirCommands : Prop :=
  ∀ (c : Instr) (s t : State), exec c s = .next t → (∀ f, c ≠ .queuePop f) → (∀ f, c ≠ .softReset f) →
    c ≠ .powerOnReset → (∀ n, c ≠ .rstN n) → s.completions.records <+: t.completions.records
end

