-- ==== Sys2Proof/Laws/State.lean ====
section
/-!
SUPPORT. One lemma for each field under each update of the state: what the update writes and that it leaves the rest. Each
holds by rfl and is tagged simp, so that no later proof unfolds a record update.
-/
namespace Sys2Proof.Machine

variable (s : State)

/-! ## State.setGroup -/

@[simp] theorem State.setGroup_groups (g : GroupId) (r : GroupRecord) : (s.setGroup g r).groups = s.groups.set g.val r := rfl
@[simp] theorem State.setGroup_free (g : GroupId) (r : GroupRecord) : (s.setGroup g r).free = s.free := rfl
@[simp] theorem State.setGroup_windows (g : GroupId) (r : GroupRecord) : (s.setGroup g r).windows = s.windows := rfl
@[simp] theorem State.setGroup_ingress (g : GroupId) (r : GroupRecord) : (s.setGroup g r).ingress = s.ingress := rfl
@[simp] theorem State.setGroup_fencedOn (g : GroupId) (r : GroupRecord) : (s.setGroup g r).fencedOn = s.fencedOn := rfl
@[simp] theorem State.setGroup_response (g : GroupId) (r : GroupRecord) : (s.setGroup g r).response = s.response := rfl
@[simp] theorem State.setGroup_nextId (g : GroupId) (r : GroupRecord) : (s.setGroup g r).nextId = s.nextId := rfl
@[simp] theorem State.setGroup_engine (g : GroupId) (r : GroupRecord) : (s.setGroup g r).engine = s.engine := rfl
@[simp] theorem State.setGroup_port (g : GroupId) (r : GroupRecord) : (s.setGroup g r).port = s.port := rfl
@[simp] theorem State.setGroup_timebase (g : GroupId) (r : GroupRecord) : (s.setGroup g r).timebase = s.timebase := rfl
@[simp] theorem State.setGroup_points (g : GroupId) (r : GroupRecord) : (s.setGroup g r).points = s.points := rfl
@[simp] theorem State.setGroup_launchQueue (g : GroupId) (r : GroupRecord) : (s.setGroup g r).launchQueue = s.launchQueue := rfl
@[simp] theorem State.setGroup_trigLevel (g : GroupId) (r : GroupRecord) : (s.setGroup g r).trigLevel = s.trigLevel := rfl
@[simp] theorem State.setGroup_missedEdges (g : GroupId) (r : GroupRecord) : (s.setGroup g r).missedEdges = s.missedEdges := rfl
@[simp] theorem State.setGroup_completions (g : GroupId) (r : GroupRecord) : (s.setGroup g r).completions = s.completions := rfl
@[simp] theorem State.setGroup_reported (g : GroupId) (r : GroupRecord) : (s.setGroup g r).reported = s.reported := rfl
@[simp] theorem State.setGroup_irq (g : GroupId) (r : GroupRecord) : (s.setGroup g r).irq = s.irq := rfl
@[simp] theorem State.setGroup_irqLow (g : GroupId) (r : GroupRecord) : (s.setGroup g r).irqLow = s.irqLow := rfl
@[simp] theorem State.setGroup_link (g : GroupId) (r : GroupRecord) : (s.setGroup g r).link = s.link := rfl
@[simp] theorem State.setGroup_inReset (g : GroupId) (r : GroupRecord) : (s.setGroup g r).inReset = s.inReset := rfl
@[simp] theorem State.setGroup_clkRuns (g : GroupId) (r : GroupRecord) : (s.setGroup g r).clkRuns = s.clkRuns := rfl
@[simp] theorem State.setGroup_freeIndex (g : GroupId) (r : GroupRecord) : (s.setGroup g r).freeIndex = s.freeIndex := rfl
@[simp] theorem State.setGroup_pending (g : GroupId) (r : GroupRecord) : (s.setGroup g r).pending = s.pending := rfl
@[simp] theorem State.setGroup_window (g : GroupId) (r : GroupRecord) (k : Fin 16) : (s.setGroup g r).window k = s.window k := rfl
@[simp] theorem State.setGroup_point (g : GroupId) (r : GroupRecord) (k : Fin 8) : (s.setGroup g r).point k = s.point k := rfl
@[simp] theorem State.setGroup_tag (g : GroupId) (r : GroupRecord) (k : TagId) : (s.setGroup g r).tag k = s.tag k := rfl
@[simp] theorem State.setGroup_settleCount (g : GroupId) (r : GroupRecord) (k : GroupId) : (s.setGroup g r).settleCount k = s.settleCount k := rfl

/-! ## State.setWindow -/

@[simp] theorem State.setWindow_groups (w : Fin 16) (r : Window) : (s.setWindow w r).groups = s.groups := rfl
@[simp] theorem State.setWindow_free (w : Fin 16) (r : Window) : (s.setWindow w r).free = s.free := rfl
@[simp] theorem State.setWindow_windows (w : Fin 16) (r : Window) : (s.setWindow w r).windows = s.windows.set w.val r := rfl
@[simp] theorem State.setWindow_ingress (w : Fin 16) (r : Window) : (s.setWindow w r).ingress = s.ingress := rfl
@[simp] theorem State.setWindow_fencedOn (w : Fin 16) (r : Window) : (s.setWindow w r).fencedOn = s.fencedOn := rfl
@[simp] theorem State.setWindow_response (w : Fin 16) (r : Window) : (s.setWindow w r).response = s.response := rfl
@[simp] theorem State.setWindow_nextId (w : Fin 16) (r : Window) : (s.setWindow w r).nextId = s.nextId := rfl
@[simp] theorem State.setWindow_engine (w : Fin 16) (r : Window) : (s.setWindow w r).engine = s.engine := rfl
@[simp] theorem State.setWindow_port (w : Fin 16) (r : Window) : (s.setWindow w r).port = s.port := rfl
@[simp] theorem State.setWindow_timebase (w : Fin 16) (r : Window) : (s.setWindow w r).timebase = s.timebase := rfl
@[simp] theorem State.setWindow_points (w : Fin 16) (r : Window) : (s.setWindow w r).points = s.points := rfl
@[simp] theorem State.setWindow_launchQueue (w : Fin 16) (r : Window) : (s.setWindow w r).launchQueue = s.launchQueue := rfl
@[simp] theorem State.setWindow_trigLevel (w : Fin 16) (r : Window) : (s.setWindow w r).trigLevel = s.trigLevel := rfl
@[simp] theorem State.setWindow_missedEdges (w : Fin 16) (r : Window) : (s.setWindow w r).missedEdges = s.missedEdges := rfl
@[simp] theorem State.setWindow_completions (w : Fin 16) (r : Window) : (s.setWindow w r).completions = s.completions := rfl
@[simp] theorem State.setWindow_reported (w : Fin 16) (r : Window) : (s.setWindow w r).reported = s.reported := rfl
@[simp] theorem State.setWindow_irq (w : Fin 16) (r : Window) : (s.setWindow w r).irq = s.irq := rfl
@[simp] theorem State.setWindow_irqLow (w : Fin 16) (r : Window) : (s.setWindow w r).irqLow = s.irqLow := rfl
@[simp] theorem State.setWindow_link (w : Fin 16) (r : Window) : (s.setWindow w r).link = s.link := rfl
@[simp] theorem State.setWindow_inReset (w : Fin 16) (r : Window) : (s.setWindow w r).inReset = s.inReset := rfl
@[simp] theorem State.setWindow_clkRuns (w : Fin 16) (r : Window) : (s.setWindow w r).clkRuns = s.clkRuns := rfl
@[simp] theorem State.setWindow_freeIndex (w : Fin 16) (r : Window) : (s.setWindow w r).freeIndex = s.freeIndex := rfl
@[simp] theorem State.setWindow_pending (w : Fin 16) (r : Window) : (s.setWindow w r).pending = s.pending := rfl
@[simp] theorem State.setWindow_group (w : Fin 16) (r : Window) (k : GroupId) : (s.setWindow w r).group k = s.group k := rfl
@[simp] theorem State.setWindow_point (w : Fin 16) (r : Window) (k : Fin 8) : (s.setWindow w r).point k = s.point k := rfl
@[simp] theorem State.setWindow_tag (w : Fin 16) (r : Window) (k : TagId) : (s.setWindow w r).tag k = s.tag k := rfl
@[simp] theorem State.setWindow_settleCount (w : Fin 16) (r : Window) (k : GroupId) : (s.setWindow w r).settleCount k = s.settleCount k := rfl

/-! ## State.setPoint -/

@[simp] theorem State.setPoint_groups (p : Fin 8) (r : LaunchPoint) : (s.setPoint p r).groups = s.groups := rfl
@[simp] theorem State.setPoint_free (p : Fin 8) (r : LaunchPoint) : (s.setPoint p r).free = s.free := rfl
@[simp] theorem State.setPoint_windows (p : Fin 8) (r : LaunchPoint) : (s.setPoint p r).windows = s.windows := rfl
@[simp] theorem State.setPoint_ingress (p : Fin 8) (r : LaunchPoint) : (s.setPoint p r).ingress = s.ingress := rfl
@[simp] theorem State.setPoint_fencedOn (p : Fin 8) (r : LaunchPoint) : (s.setPoint p r).fencedOn = s.fencedOn := rfl
@[simp] theorem State.setPoint_response (p : Fin 8) (r : LaunchPoint) : (s.setPoint p r).response = s.response := rfl
@[simp] theorem State.setPoint_nextId (p : Fin 8) (r : LaunchPoint) : (s.setPoint p r).nextId = s.nextId := rfl
@[simp] theorem State.setPoint_engine (p : Fin 8) (r : LaunchPoint) : (s.setPoint p r).engine = s.engine := rfl
@[simp] theorem State.setPoint_port (p : Fin 8) (r : LaunchPoint) : (s.setPoint p r).port = s.port := rfl
@[simp] theorem State.setPoint_timebase (p : Fin 8) (r : LaunchPoint) : (s.setPoint p r).timebase = s.timebase := rfl
@[simp] theorem State.setPoint_points (p : Fin 8) (r : LaunchPoint) : (s.setPoint p r).points = s.points.set p.val r := rfl
@[simp] theorem State.setPoint_launchQueue (p : Fin 8) (r : LaunchPoint) : (s.setPoint p r).launchQueue = s.launchQueue := rfl
@[simp] theorem State.setPoint_trigLevel (p : Fin 8) (r : LaunchPoint) : (s.setPoint p r).trigLevel = s.trigLevel := rfl
@[simp] theorem State.setPoint_missedEdges (p : Fin 8) (r : LaunchPoint) : (s.setPoint p r).missedEdges = s.missedEdges := rfl
@[simp] theorem State.setPoint_completions (p : Fin 8) (r : LaunchPoint) : (s.setPoint p r).completions = s.completions := rfl
@[simp] theorem State.setPoint_reported (p : Fin 8) (r : LaunchPoint) : (s.setPoint p r).reported = s.reported := rfl
@[simp] theorem State.setPoint_irq (p : Fin 8) (r : LaunchPoint) : (s.setPoint p r).irq = s.irq := rfl
@[simp] theorem State.setPoint_irqLow (p : Fin 8) (r : LaunchPoint) : (s.setPoint p r).irqLow = s.irqLow := rfl
@[simp] theorem State.setPoint_link (p : Fin 8) (r : LaunchPoint) : (s.setPoint p r).link = s.link := rfl
@[simp] theorem State.setPoint_inReset (p : Fin 8) (r : LaunchPoint) : (s.setPoint p r).inReset = s.inReset := rfl
@[simp] theorem State.setPoint_clkRuns (p : Fin 8) (r : LaunchPoint) : (s.setPoint p r).clkRuns = s.clkRuns := rfl
@[simp] theorem State.setPoint_freeIndex (p : Fin 8) (r : LaunchPoint) : (s.setPoint p r).freeIndex = s.freeIndex := rfl
@[simp] theorem State.setPoint_pending (p : Fin 8) (r : LaunchPoint) : (s.setPoint p r).pending = s.pending := rfl
@[simp] theorem State.setPoint_group (p : Fin 8) (r : LaunchPoint) (k : GroupId) : (s.setPoint p r).group k = s.group k := rfl
@[simp] theorem State.setPoint_window (p : Fin 8) (r : LaunchPoint) (k : Fin 16) : (s.setPoint p r).window k = s.window k := rfl
@[simp] theorem State.setPoint_tag (p : Fin 8) (r : LaunchPoint) (k : TagId) : (s.setPoint p r).tag k = s.tag k := rfl
@[simp] theorem State.setPoint_settleCount (p : Fin 8) (r : LaunchPoint) (k : GroupId) : (s.setPoint p r).settleCount k = s.settleCount k := rfl

/-! ## State.setEngine -/

@[simp] theorem State.setEngine_groups (e : Engine) : (s.setEngine e).groups = s.groups := rfl
@[simp] theorem State.setEngine_free (e : Engine) : (s.setEngine e).free = s.free := rfl
@[simp] theorem State.setEngine_windows (e : Engine) : (s.setEngine e).windows = s.windows := rfl
@[simp] theorem State.setEngine_ingress (e : Engine) : (s.setEngine e).ingress = s.ingress := rfl
@[simp] theorem State.setEngine_fencedOn (e : Engine) : (s.setEngine e).fencedOn = s.fencedOn := rfl
@[simp] theorem State.setEngine_response (e : Engine) : (s.setEngine e).response = s.response := rfl
@[simp] theorem State.setEngine_nextId (e : Engine) : (s.setEngine e).nextId = s.nextId := rfl
@[simp] theorem State.setEngine_engine (e : Engine) : (s.setEngine e).engine = e := rfl
@[simp] theorem State.setEngine_port (e : Engine) : (s.setEngine e).port = s.port := rfl
@[simp] theorem State.setEngine_timebase (e : Engine) : (s.setEngine e).timebase = s.timebase := rfl
@[simp] theorem State.setEngine_points (e : Engine) : (s.setEngine e).points = s.points := rfl
@[simp] theorem State.setEngine_launchQueue (e : Engine) : (s.setEngine e).launchQueue = s.launchQueue := rfl
@[simp] theorem State.setEngine_trigLevel (e : Engine) : (s.setEngine e).trigLevel = s.trigLevel := rfl
@[simp] theorem State.setEngine_missedEdges (e : Engine) : (s.setEngine e).missedEdges = s.missedEdges := rfl
@[simp] theorem State.setEngine_completions (e : Engine) : (s.setEngine e).completions = s.completions := rfl
@[simp] theorem State.setEngine_reported (e : Engine) : (s.setEngine e).reported = s.reported := rfl
@[simp] theorem State.setEngine_irq (e : Engine) : (s.setEngine e).irq = s.irq := rfl
@[simp] theorem State.setEngine_irqLow (e : Engine) : (s.setEngine e).irqLow = s.irqLow := rfl
@[simp] theorem State.setEngine_link (e : Engine) : (s.setEngine e).link = s.link := rfl
@[simp] theorem State.setEngine_inReset (e : Engine) : (s.setEngine e).inReset = s.inReset := rfl
@[simp] theorem State.setEngine_clkRuns (e : Engine) : (s.setEngine e).clkRuns = s.clkRuns := rfl
@[simp] theorem State.setEngine_freeIndex (e : Engine) : (s.setEngine e).freeIndex = s.freeIndex := rfl
@[simp] theorem State.setEngine_pending (e : Engine) : (s.setEngine e).pending = s.pending := rfl
@[simp] theorem State.setEngine_group (e : Engine) (k : GroupId) : (s.setEngine e).group k = s.group k := rfl
@[simp] theorem State.setEngine_window (e : Engine) (k : Fin 16) : (s.setEngine e).window k = s.window k := rfl
@[simp] theorem State.setEngine_point (e : Engine) (k : Fin 8) : (s.setEngine e).point k = s.point k := rfl
@[simp] theorem State.setEngine_tag (e : Engine) (k : TagId) : (s.setEngine e).tag k = s.tag k := rfl
@[simp] theorem State.setEngine_settleCount (e : Engine) (k : GroupId) : (s.setEngine e).settleCount k = s.settleCount k := rfl

/-! ## State.setPort -/

@[simp] theorem State.setPort_groups (p : MemoryPort) : (s.setPort p).groups = s.groups := rfl
@[simp] theorem State.setPort_free (p : MemoryPort) : (s.setPort p).free = s.free := rfl
@[simp] theorem State.setPort_windows (p : MemoryPort) : (s.setPort p).windows = s.windows := rfl
@[simp] theorem State.setPort_ingress (p : MemoryPort) : (s.setPort p).ingress = s.ingress := rfl
@[simp] theorem State.setPort_fencedOn (p : MemoryPort) : (s.setPort p).fencedOn = s.fencedOn := rfl
@[simp] theorem State.setPort_response (p : MemoryPort) : (s.setPort p).response = s.response := rfl
@[simp] theorem State.setPort_nextId (p : MemoryPort) : (s.setPort p).nextId = s.nextId := rfl
@[simp] theorem State.setPort_engine (p : MemoryPort) : (s.setPort p).engine = s.engine := rfl
@[simp] theorem State.setPort_port (p : MemoryPort) : (s.setPort p).port = p := rfl
@[simp] theorem State.setPort_timebase (p : MemoryPort) : (s.setPort p).timebase = s.timebase := rfl
@[simp] theorem State.setPort_points (p : MemoryPort) : (s.setPort p).points = s.points := rfl
@[simp] theorem State.setPort_launchQueue (p : MemoryPort) : (s.setPort p).launchQueue = s.launchQueue := rfl
@[simp] theorem State.setPort_trigLevel (p : MemoryPort) : (s.setPort p).trigLevel = s.trigLevel := rfl
@[simp] theorem State.setPort_missedEdges (p : MemoryPort) : (s.setPort p).missedEdges = s.missedEdges := rfl
@[simp] theorem State.setPort_completions (p : MemoryPort) : (s.setPort p).completions = s.completions := rfl
@[simp] theorem State.setPort_reported (p : MemoryPort) : (s.setPort p).reported = s.reported := rfl
@[simp] theorem State.setPort_irq (p : MemoryPort) : (s.setPort p).irq = s.irq := rfl
@[simp] theorem State.setPort_irqLow (p : MemoryPort) : (s.setPort p).irqLow = s.irqLow := rfl
@[simp] theorem State.setPort_link (p : MemoryPort) : (s.setPort p).link = s.link := rfl
@[simp] theorem State.setPort_inReset (p : MemoryPort) : (s.setPort p).inReset = s.inReset := rfl
@[simp] theorem State.setPort_clkRuns (p : MemoryPort) : (s.setPort p).clkRuns = s.clkRuns := rfl
@[simp] theorem State.setPort_freeIndex (p : MemoryPort) : (s.setPort p).freeIndex = s.freeIndex := rfl
@[simp] theorem State.setPort_pending (p : MemoryPort) : (s.setPort p).pending = s.pending := rfl
@[simp] theorem State.setPort_group (p : MemoryPort) (k : GroupId) : (s.setPort p).group k = s.group k := rfl
@[simp] theorem State.setPort_window (p : MemoryPort) (k : Fin 16) : (s.setPort p).window k = s.window k := rfl
@[simp] theorem State.setPort_point (p : MemoryPort) (k : Fin 8) : (s.setPort p).point k = s.point k := rfl

/-! ## State.setTimebase -/

@[simp] theorem State.setTimebase_groups (t : Timebase) : (s.setTimebase t).groups = s.groups := rfl
@[simp] theorem State.setTimebase_free (t : Timebase) : (s.setTimebase t).free = s.free := rfl
@[simp] theorem State.setTimebase_windows (t : Timebase) : (s.setTimebase t).windows = s.windows := rfl
@[simp] theorem State.setTimebase_ingress (t : Timebase) : (s.setTimebase t).ingress = s.ingress := rfl
@[simp] theorem State.setTimebase_fencedOn (t : Timebase) : (s.setTimebase t).fencedOn = s.fencedOn := rfl
@[simp] theorem State.setTimebase_response (t : Timebase) : (s.setTimebase t).response = s.response := rfl
@[simp] theorem State.setTimebase_nextId (t : Timebase) : (s.setTimebase t).nextId = s.nextId := rfl
@[simp] theorem State.setTimebase_engine (t : Timebase) : (s.setTimebase t).engine = s.engine := rfl
@[simp] theorem State.setTimebase_port (t : Timebase) : (s.setTimebase t).port = s.port := rfl
@[simp] theorem State.setTimebase_timebase (t : Timebase) : (s.setTimebase t).timebase = t := rfl
@[simp] theorem State.setTimebase_points (t : Timebase) : (s.setTimebase t).points = s.points := rfl
@[simp] theorem State.setTimebase_launchQueue (t : Timebase) : (s.setTimebase t).launchQueue = s.launchQueue := rfl
@[simp] theorem State.setTimebase_trigLevel (t : Timebase) : (s.setTimebase t).trigLevel = s.trigLevel := rfl
@[simp] theorem State.setTimebase_missedEdges (t : Timebase) : (s.setTimebase t).missedEdges = s.missedEdges := rfl
@[simp] theorem State.setTimebase_completions (t : Timebase) : (s.setTimebase t).completions = s.completions := rfl
@[simp] theorem State.setTimebase_reported (t : Timebase) : (s.setTimebase t).reported = s.reported := rfl
@[simp] theorem State.setTimebase_irq (t : Timebase) : (s.setTimebase t).irq = s.irq := rfl
@[simp] theorem State.setTimebase_irqLow (t : Timebase) : (s.setTimebase t).irqLow = s.irqLow := rfl
@[simp] theorem State.setTimebase_link (t : Timebase) : (s.setTimebase t).link = s.link := rfl
@[simp] theorem State.setTimebase_inReset (t : Timebase) : (s.setTimebase t).inReset = s.inReset := rfl
@[simp] theorem State.setTimebase_clkRuns (t : Timebase) : (s.setTimebase t).clkRuns = s.clkRuns := rfl
@[simp] theorem State.setTimebase_freeIndex (t : Timebase) : (s.setTimebase t).freeIndex = s.freeIndex := rfl
@[simp] theorem State.setTimebase_pending (t : Timebase) : (s.setTimebase t).pending = s.pending := rfl
@[simp] theorem State.setTimebase_group (t : Timebase) (k : GroupId) : (s.setTimebase t).group k = s.group k := rfl
@[simp] theorem State.setTimebase_window (t : Timebase) (k : Fin 16) : (s.setTimebase t).window k = s.window k := rfl
@[simp] theorem State.setTimebase_point (t : Timebase) (k : Fin 8) : (s.setTimebase t).point k = s.point k := rfl
@[simp] theorem State.setTimebase_tag (t : Timebase) (k : TagId) : (s.setTimebase t).tag k = s.tag k := rfl
@[simp] theorem State.setTimebase_settleCount (t : Timebase) (k : GroupId) : (s.setTimebase t).settleCount k = s.settleCount k := rfl

/-! ## State.setLaunchQueue -/

@[simp] theorem State.setLaunchQueue_groups (q : List GroupId) : (s.setLaunchQueue q).groups = s.groups := rfl
@[simp] theorem State.setLaunchQueue_free (q : List GroupId) : (s.setLaunchQueue q).free = s.free := rfl
@[simp] theorem State.setLaunchQueue_windows (q : List GroupId) : (s.setLaunchQueue q).windows = s.windows := rfl
@[simp] theorem State.setLaunchQueue_ingress (q : List GroupId) : (s.setLaunchQueue q).ingress = s.ingress := rfl
@[simp] theorem State.setLaunchQueue_fencedOn (q : List GroupId) : (s.setLaunchQueue q).fencedOn = s.fencedOn := rfl
@[simp] theorem State.setLaunchQueue_response (q : List GroupId) : (s.setLaunchQueue q).response = s.response := rfl
@[simp] theorem State.setLaunchQueue_nextId (q : List GroupId) : (s.setLaunchQueue q).nextId = s.nextId := rfl
@[simp] theorem State.setLaunchQueue_engine (q : List GroupId) : (s.setLaunchQueue q).engine = s.engine := rfl
@[simp] theorem State.setLaunchQueue_port (q : List GroupId) : (s.setLaunchQueue q).port = s.port := rfl
@[simp] theorem State.setLaunchQueue_timebase (q : List GroupId) : (s.setLaunchQueue q).timebase = s.timebase := rfl
@[simp] theorem State.setLaunchQueue_points (q : List GroupId) : (s.setLaunchQueue q).points = s.points := rfl
@[simp] theorem State.setLaunchQueue_launchQueue (q : List GroupId) : (s.setLaunchQueue q).launchQueue = q := rfl
@[simp] theorem State.setLaunchQueue_trigLevel (q : List GroupId) : (s.setLaunchQueue q).trigLevel = s.trigLevel := rfl
@[simp] theorem State.setLaunchQueue_missedEdges (q : List GroupId) : (s.setLaunchQueue q).missedEdges = s.missedEdges := rfl
@[simp] theorem State.setLaunchQueue_completions (q : List GroupId) : (s.setLaunchQueue q).completions = s.completions := rfl
@[simp] theorem State.setLaunchQueue_reported (q : List GroupId) : (s.setLaunchQueue q).reported = s.reported := rfl
@[simp] theorem State.setLaunchQueue_irq (q : List GroupId) : (s.setLaunchQueue q).irq = s.irq := rfl
@[simp] theorem State.setLaunchQueue_irqLow (q : List GroupId) : (s.setLaunchQueue q).irqLow = s.irqLow := rfl
@[simp] theorem State.setLaunchQueue_link (q : List GroupId) : (s.setLaunchQueue q).link = s.link := rfl
@[simp] theorem State.setLaunchQueue_inReset (q : List GroupId) : (s.setLaunchQueue q).inReset = s.inReset := rfl
@[simp] theorem State.setLaunchQueue_clkRuns (q : List GroupId) : (s.setLaunchQueue q).clkRuns = s.clkRuns := rfl
@[simp] theorem State.setLaunchQueue_freeIndex (q : List GroupId) : (s.setLaunchQueue q).freeIndex = s.freeIndex := rfl
@[simp] theorem State.setLaunchQueue_pending (q : List GroupId) : (s.setLaunchQueue q).pending = s.pending := rfl
@[simp] theorem State.setLaunchQueue_group (q : List GroupId) (k : GroupId) : (s.setLaunchQueue q).group k = s.group k := rfl
@[simp] theorem State.setLaunchQueue_window (q : List GroupId) (k : Fin 16) : (s.setLaunchQueue q).window k = s.window k := rfl
@[simp] theorem State.setLaunchQueue_point (q : List GroupId) (k : Fin 8) : (s.setLaunchQueue q).point k = s.point k := rfl
@[simp] theorem State.setLaunchQueue_tag (q : List GroupId) (k : TagId) : (s.setLaunchQueue q).tag k = s.tag k := rfl
@[simp] theorem State.setLaunchQueue_settleCount (q : List GroupId) (k : GroupId) : (s.setLaunchQueue q).settleCount k = s.settleCount k := rfl

/-! ## State.setIngress -/

@[simp] theorem State.setIngress_groups (q : List Ingress) : (s.setIngress q).groups = s.groups := rfl
@[simp] theorem State.setIngress_free (q : List Ingress) : (s.setIngress q).free = s.free := rfl
@[simp] theorem State.setIngress_windows (q : List Ingress) : (s.setIngress q).windows = s.windows := rfl
@[simp] theorem State.setIngress_ingress (q : List Ingress) : (s.setIngress q).ingress = q := rfl
@[simp] theorem State.setIngress_fencedOn (q : List Ingress) : (s.setIngress q).fencedOn = s.fencedOn := rfl
@[simp] theorem State.setIngress_response (q : List Ingress) : (s.setIngress q).response = s.response := rfl
@[simp] theorem State.setIngress_nextId (q : List Ingress) : (s.setIngress q).nextId = s.nextId := rfl
@[simp] theorem State.setIngress_engine (q : List Ingress) : (s.setIngress q).engine = s.engine := rfl
@[simp] theorem State.setIngress_port (q : List Ingress) : (s.setIngress q).port = s.port := rfl
@[simp] theorem State.setIngress_timebase (q : List Ingress) : (s.setIngress q).timebase = s.timebase := rfl
@[simp] theorem State.setIngress_points (q : List Ingress) : (s.setIngress q).points = s.points := rfl
@[simp] theorem State.setIngress_launchQueue (q : List Ingress) : (s.setIngress q).launchQueue = s.launchQueue := rfl
@[simp] theorem State.setIngress_trigLevel (q : List Ingress) : (s.setIngress q).trigLevel = s.trigLevel := rfl
@[simp] theorem State.setIngress_missedEdges (q : List Ingress) : (s.setIngress q).missedEdges = s.missedEdges := rfl
@[simp] theorem State.setIngress_completions (q : List Ingress) : (s.setIngress q).completions = s.completions := rfl
@[simp] theorem State.setIngress_reported (q : List Ingress) : (s.setIngress q).reported = s.reported := rfl
@[simp] theorem State.setIngress_irq (q : List Ingress) : (s.setIngress q).irq = s.irq := rfl
@[simp] theorem State.setIngress_irqLow (q : List Ingress) : (s.setIngress q).irqLow = s.irqLow := rfl
@[simp] theorem State.setIngress_link (q : List Ingress) : (s.setIngress q).link = s.link := rfl
@[simp] theorem State.setIngress_inReset (q : List Ingress) : (s.setIngress q).inReset = s.inReset := rfl
@[simp] theorem State.setIngress_clkRuns (q : List Ingress) : (s.setIngress q).clkRuns = s.clkRuns := rfl
@[simp] theorem State.setIngress_freeIndex (q : List Ingress) : (s.setIngress q).freeIndex = s.freeIndex := rfl
@[simp] theorem State.setIngress_pending (q : List Ingress) : (s.setIngress q).pending = s.pending := rfl
@[simp] theorem State.setIngress_group (q : List Ingress) (k : GroupId) : (s.setIngress q).group k = s.group k := rfl
@[simp] theorem State.setIngress_window (q : List Ingress) (k : Fin 16) : (s.setIngress q).window k = s.window k := rfl
@[simp] theorem State.setIngress_point (q : List Ingress) (k : Fin 8) : (s.setIngress q).point k = s.point k := rfl
@[simp] theorem State.setIngress_tag (q : List Ingress) (k : TagId) : (s.setIngress q).tag k = s.tag k := rfl
@[simp] theorem State.setIngress_settleCount (q : List Ingress) (k : GroupId) : (s.setIngress q).settleCount k = s.settleCount k := rfl

/-! ## State.setFence -/

@[simp] theorem State.setFence_groups (g : Option GroupId) : (s.setFence g).groups = s.groups := rfl
@[simp] theorem State.setFence_free (g : Option GroupId) : (s.setFence g).free = s.free := rfl
@[simp] theorem State.setFence_windows (g : Option GroupId) : (s.setFence g).windows = s.windows := rfl
@[simp] theorem State.setFence_ingress (g : Option GroupId) : (s.setFence g).ingress = s.ingress := rfl
@[simp] theorem State.setFence_fencedOn (g : Option GroupId) : (s.setFence g).fencedOn = g := rfl
@[simp] theorem State.setFence_response (g : Option GroupId) : (s.setFence g).response = s.response := rfl
@[simp] theorem State.setFence_nextId (g : Option GroupId) : (s.setFence g).nextId = s.nextId := rfl
@[simp] theorem State.setFence_engine (g : Option GroupId) : (s.setFence g).engine = s.engine := rfl
@[simp] theorem State.setFence_port (g : Option GroupId) : (s.setFence g).port = s.port := rfl
@[simp] theorem State.setFence_timebase (g : Option GroupId) : (s.setFence g).timebase = s.timebase := rfl
@[simp] theorem State.setFence_points (g : Option GroupId) : (s.setFence g).points = s.points := rfl
@[simp] theorem State.setFence_launchQueue (g : Option GroupId) : (s.setFence g).launchQueue = s.launchQueue := rfl
@[simp] theorem State.setFence_trigLevel (g : Option GroupId) : (s.setFence g).trigLevel = s.trigLevel := rfl
@[simp] theorem State.setFence_missedEdges (g : Option GroupId) : (s.setFence g).missedEdges = s.missedEdges := rfl
@[simp] theorem State.setFence_completions (g : Option GroupId) : (s.setFence g).completions = s.completions := rfl
@[simp] theorem State.setFence_reported (g : Option GroupId) : (s.setFence g).reported = s.reported := rfl
@[simp] theorem State.setFence_irq (g : Option GroupId) : (s.setFence g).irq = s.irq := rfl
@[simp] theorem State.setFence_irqLow (g : Option GroupId) : (s.setFence g).irqLow = s.irqLow := rfl
@[simp] theorem State.setFence_link (g : Option GroupId) : (s.setFence g).link = s.link := rfl
@[simp] theorem State.setFence_inReset (g : Option GroupId) : (s.setFence g).inReset = s.inReset := rfl
@[simp] theorem State.setFence_clkRuns (g : Option GroupId) : (s.setFence g).clkRuns = s.clkRuns := rfl
@[simp] theorem State.setFence_freeIndex (g : Option GroupId) : (s.setFence g).freeIndex = s.freeIndex := rfl
@[simp] theorem State.setFence_pending (g : Option GroupId) : (s.setFence g).pending = s.pending := rfl
@[simp] theorem State.setFence_group (g : Option GroupId) (k : GroupId) : (s.setFence g).group k = s.group k := rfl
@[simp] theorem State.setFence_window (g : Option GroupId) (k : Fin 16) : (s.setFence g).window k = s.window k := rfl
@[simp] theorem State.setFence_point (g : Option GroupId) (k : Fin 8) : (s.setFence g).point k = s.point k := rfl
@[simp] theorem State.setFence_tag (g : Option GroupId) (k : TagId) : (s.setFence g).tag k = s.tag k := rfl
@[simp] theorem State.setFence_settleCount (g : Option GroupId) (k : GroupId) : (s.setFence g).settleCount k = s.settleCount k := rfl

/-! ## State.setFree -/

@[simp] theorem State.setFree_groups (n : Nat) : (s.setFree n).groups = s.groups := rfl
@[simp] theorem State.setFree_free (n : Nat) : (s.setFree n).free = n := rfl
@[simp] theorem State.setFree_windows (n : Nat) : (s.setFree n).windows = s.windows := rfl
@[simp] theorem State.setFree_ingress (n : Nat) : (s.setFree n).ingress = s.ingress := rfl
@[simp] theorem State.setFree_fencedOn (n : Nat) : (s.setFree n).fencedOn = s.fencedOn := rfl
@[simp] theorem State.setFree_response (n : Nat) : (s.setFree n).response = s.response := rfl
@[simp] theorem State.setFree_nextId (n : Nat) : (s.setFree n).nextId = s.nextId := rfl
@[simp] theorem State.setFree_engine (n : Nat) : (s.setFree n).engine = s.engine := rfl
@[simp] theorem State.setFree_port (n : Nat) : (s.setFree n).port = s.port := rfl
@[simp] theorem State.setFree_timebase (n : Nat) : (s.setFree n).timebase = s.timebase := rfl
@[simp] theorem State.setFree_points (n : Nat) : (s.setFree n).points = s.points := rfl
@[simp] theorem State.setFree_launchQueue (n : Nat) : (s.setFree n).launchQueue = s.launchQueue := rfl
@[simp] theorem State.setFree_trigLevel (n : Nat) : (s.setFree n).trigLevel = s.trigLevel := rfl
@[simp] theorem State.setFree_missedEdges (n : Nat) : (s.setFree n).missedEdges = s.missedEdges := rfl
@[simp] theorem State.setFree_completions (n : Nat) : (s.setFree n).completions = s.completions := rfl
@[simp] theorem State.setFree_reported (n : Nat) : (s.setFree n).reported = s.reported := rfl
@[simp] theorem State.setFree_irq (n : Nat) : (s.setFree n).irq = s.irq := rfl
@[simp] theorem State.setFree_irqLow (n : Nat) : (s.setFree n).irqLow = s.irqLow := rfl
@[simp] theorem State.setFree_link (n : Nat) : (s.setFree n).link = s.link := rfl
@[simp] theorem State.setFree_inReset (n : Nat) : (s.setFree n).inReset = s.inReset := rfl
@[simp] theorem State.setFree_clkRuns (n : Nat) : (s.setFree n).clkRuns = s.clkRuns := rfl
@[simp] theorem State.setFree_freeIndex (n : Nat) : (s.setFree n).freeIndex = s.freeIndex := rfl
@[simp] theorem State.setFree_pending (n : Nat) : (s.setFree n).pending = s.pending := rfl
@[simp] theorem State.setFree_group (n : Nat) (k : GroupId) : (s.setFree n).group k = s.group k := rfl
@[simp] theorem State.setFree_window (n : Nat) (k : Fin 16) : (s.setFree n).window k = s.window k := rfl
@[simp] theorem State.setFree_point (n : Nat) (k : Fin 8) : (s.setFree n).point k = s.point k := rfl
@[simp] theorem State.setFree_tag (n : Nat) (k : TagId) : (s.setFree n).tag k = s.tag k := rfl
@[simp] theorem State.setFree_settleCount (n : Nat) (k : GroupId) : (s.setFree n).settleCount k = s.settleCount k := rfl

/-! ## State.setLink -/

@[simp] theorem State.setLink_groups (l : ControlLink) : (s.setLink l).groups = s.groups := rfl
@[simp] theorem State.setLink_free (l : ControlLink) : (s.setLink l).free = s.free := rfl
@[simp] theorem State.setLink_windows (l : ControlLink) : (s.setLink l).windows = s.windows := rfl
@[simp] theorem State.setLink_ingress (l : ControlLink) : (s.setLink l).ingress = s.ingress := rfl
@[simp] theorem State.setLink_fencedOn (l : ControlLink) : (s.setLink l).fencedOn = s.fencedOn := rfl
@[simp] theorem State.setLink_response (l : ControlLink) : (s.setLink l).response = s.response := rfl
@[simp] theorem State.setLink_nextId (l : ControlLink) : (s.setLink l).nextId = s.nextId := rfl
@[simp] theorem State.setLink_engine (l : ControlLink) : (s.setLink l).engine = s.engine := rfl
@[simp] theorem State.setLink_port (l : ControlLink) : (s.setLink l).port = s.port := rfl
@[simp] theorem State.setLink_timebase (l : ControlLink) : (s.setLink l).timebase = s.timebase := rfl
@[simp] theorem State.setLink_points (l : ControlLink) : (s.setLink l).points = s.points := rfl
@[simp] theorem State.setLink_launchQueue (l : ControlLink) : (s.setLink l).launchQueue = s.launchQueue := rfl
@[simp] theorem State.setLink_trigLevel (l : ControlLink) : (s.setLink l).trigLevel = s.trigLevel := rfl
@[simp] theorem State.setLink_missedEdges (l : ControlLink) : (s.setLink l).missedEdges = s.missedEdges := rfl
@[simp] theorem State.setLink_completions (l : ControlLink) : (s.setLink l).completions = s.completions := rfl
@[simp] theorem State.setLink_reported (l : ControlLink) : (s.setLink l).reported = s.reported := rfl
@[simp] theorem State.setLink_irq (l : ControlLink) : (s.setLink l).irq = s.irq := rfl
@[simp] theorem State.setLink_irqLow (l : ControlLink) : (s.setLink l).irqLow = s.irqLow := rfl
@[simp] theorem State.setLink_link (l : ControlLink) : (s.setLink l).link = l := rfl
@[simp] theorem State.setLink_inReset (l : ControlLink) : (s.setLink l).inReset = s.inReset := rfl
@[simp] theorem State.setLink_clkRuns (l : ControlLink) : (s.setLink l).clkRuns = s.clkRuns := rfl
@[simp] theorem State.setLink_freeIndex (l : ControlLink) : (s.setLink l).freeIndex = s.freeIndex := rfl
@[simp] theorem State.setLink_pending (l : ControlLink) : (s.setLink l).pending = s.pending := rfl
@[simp] theorem State.setLink_group (l : ControlLink) (k : GroupId) : (s.setLink l).group k = s.group k := rfl
@[simp] theorem State.setLink_window (l : ControlLink) (k : Fin 16) : (s.setLink l).window k = s.window k := rfl
@[simp] theorem State.setLink_point (l : ControlLink) (k : Fin 8) : (s.setLink l).point k = s.point k := rfl
@[simp] theorem State.setLink_tag (l : ControlLink) (k : TagId) : (s.setLink l).tag k = s.tag k := rfl
@[simp] theorem State.setLink_settleCount (l : ControlLink) (k : GroupId) : (s.setLink l).settleCount k = s.settleCount k := rfl

/-! ## State.setCompletions -/

@[simp] theorem State.setCompletions_groups (c : IrqConfig) (q : CompletionQueue) : (s.setCompletions c q).groups = s.groups := rfl
@[simp] theorem State.setCompletions_free (c : IrqConfig) (q : CompletionQueue) : (s.setCompletions c q).free = s.free := rfl
@[simp] theorem State.setCompletions_windows (c : IrqConfig) (q : CompletionQueue) : (s.setCompletions c q).windows = s.windows := rfl
@[simp] theorem State.setCompletions_ingress (c : IrqConfig) (q : CompletionQueue) : (s.setCompletions c q).ingress = s.ingress := rfl
@[simp] theorem State.setCompletions_fencedOn (c : IrqConfig) (q : CompletionQueue) : (s.setCompletions c q).fencedOn = s.fencedOn := rfl
@[simp] theorem State.setCompletions_response (c : IrqConfig) (q : CompletionQueue) : (s.setCompletions c q).response = s.response := rfl
@[simp] theorem State.setCompletions_nextId (c : IrqConfig) (q : CompletionQueue) : (s.setCompletions c q).nextId = s.nextId := rfl
@[simp] theorem State.setCompletions_engine (c : IrqConfig) (q : CompletionQueue) : (s.setCompletions c q).engine = s.engine := rfl
@[simp] theorem State.setCompletions_port (c : IrqConfig) (q : CompletionQueue) : (s.setCompletions c q).port = s.port := rfl
@[simp] theorem State.setCompletions_timebase (c : IrqConfig) (q : CompletionQueue) : (s.setCompletions c q).timebase = s.timebase := rfl
@[simp] theorem State.setCompletions_points (c : IrqConfig) (q : CompletionQueue) : (s.setCompletions c q).points = s.points := rfl
@[simp] theorem State.setCompletions_launchQueue (c : IrqConfig) (q : CompletionQueue) : (s.setCompletions c q).launchQueue = s.launchQueue := rfl
@[simp] theorem State.setCompletions_trigLevel (c : IrqConfig) (q : CompletionQueue) : (s.setCompletions c q).trigLevel = s.trigLevel := rfl
@[simp] theorem State.setCompletions_missedEdges (c : IrqConfig) (q : CompletionQueue) : (s.setCompletions c q).missedEdges = s.missedEdges := rfl
@[simp] theorem State.setCompletions_completions (c : IrqConfig) (q : CompletionQueue) : (s.setCompletions c q).completions = q := rfl
@[simp] theorem State.setCompletions_reported (c : IrqConfig) (q : CompletionQueue) : (s.setCompletions c q).reported = s.reported := rfl
@[simp] theorem State.setCompletions_irq (c : IrqConfig) (q : CompletionQueue) : (s.setCompletions c q).irq = c := rfl
@[simp] theorem State.setCompletions_irqLow (c : IrqConfig) (q : CompletionQueue) : (s.setCompletions c q).irqLow = irqLevel c q := rfl
@[simp] theorem State.setCompletions_link (c : IrqConfig) (q : CompletionQueue) : (s.setCompletions c q).link = s.link := rfl
@[simp] theorem State.setCompletions_inReset (c : IrqConfig) (q : CompletionQueue) : (s.setCompletions c q).inReset = s.inReset := rfl
@[simp] theorem State.setCompletions_clkRuns (c : IrqConfig) (q : CompletionQueue) : (s.setCompletions c q).clkRuns = s.clkRuns := rfl
@[simp] theorem State.setCompletions_freeIndex (c : IrqConfig) (q : CompletionQueue) : (s.setCompletions c q).freeIndex = s.freeIndex := rfl
@[simp] theorem State.setCompletions_pending (c : IrqConfig) (q : CompletionQueue) : (s.setCompletions c q).pending = s.pending := rfl
@[simp] theorem State.setCompletions_group (c : IrqConfig) (q : CompletionQueue) (k : GroupId) : (s.setCompletions c q).group k = s.group k := rfl
@[simp] theorem State.setCompletions_window (c : IrqConfig) (q : CompletionQueue) (k : Fin 16) : (s.setCompletions c q).window k = s.window k := rfl
@[simp] theorem State.setCompletions_point (c : IrqConfig) (q : CompletionQueue) (k : Fin 8) : (s.setCompletions c q).point k = s.point k := rfl
@[simp] theorem State.setCompletions_tag (c : IrqConfig) (q : CompletionQueue) (k : TagId) : (s.setCompletions c q).tag k = s.tag k := rfl
@[simp] theorem State.setCompletions_settleCount (c : IrqConfig) (q : CompletionQueue) (k : GroupId) : (s.setCompletions c q).settleCount k = s.settleCount k := rfl

/-! ## State.useFree -/

@[simp] theorem State.useFree_groups : (s.useFree).groups = s.groups := rfl
@[simp] theorem State.useFree_free : (s.useFree).free = s.free := rfl
@[simp] theorem State.useFree_windows : (s.useFree).windows = s.windows := rfl
@[simp] theorem State.useFree_ingress : (s.useFree).ingress = s.ingress := rfl
@[simp] theorem State.useFree_fencedOn : (s.useFree).fencedOn = s.fencedOn := rfl
@[simp] theorem State.useFree_response : (s.useFree).response = s.response := rfl
@[simp] theorem State.useFree_nextId : (s.useFree).nextId = s.nextId := rfl
@[simp] theorem State.useFree_engine : (s.useFree).engine = s.engine := rfl
@[simp] theorem State.useFree_port : (s.useFree).port = s.port := rfl
@[simp] theorem State.useFree_timebase : (s.useFree).timebase = s.timebase := rfl
@[simp] theorem State.useFree_points : (s.useFree).points = s.points := rfl
@[simp] theorem State.useFree_launchQueue : (s.useFree).launchQueue = s.launchQueue := rfl
@[simp] theorem State.useFree_trigLevel : (s.useFree).trigLevel = s.trigLevel := rfl
@[simp] theorem State.useFree_missedEdges : (s.useFree).missedEdges = s.missedEdges := rfl
@[simp] theorem State.useFree_completions : (s.useFree).completions = s.completions := rfl
@[simp] theorem State.useFree_reported : (s.useFree).reported = s.reported := rfl
@[simp] theorem State.useFree_irq : (s.useFree).irq = s.irq := rfl
@[simp] theorem State.useFree_irqLow : (s.useFree).irqLow = s.irqLow := rfl
@[simp] theorem State.useFree_link : (s.useFree).link = s.link := rfl
@[simp] theorem State.useFree_inReset : (s.useFree).inReset = s.inReset := rfl
@[simp] theorem State.useFree_clkRuns : (s.useFree).clkRuns = s.clkRuns := rfl
@[simp] theorem State.useFree_freeIndex : (s.useFree).freeIndex = s.freeIndex + 1 := rfl
@[simp] theorem State.useFree_pending : (s.useFree).pending = s.pending := rfl
@[simp] theorem State.useFree_group (k : GroupId) : (s.useFree).group k = s.group k := rfl
@[simp] theorem State.useFree_window (k : Fin 16) : (s.useFree).window k = s.window k := rfl
@[simp] theorem State.useFree_point (k : Fin 8) : (s.useFree).point k = s.point k := rfl
@[simp] theorem State.useFree_tag (k : TagId) : (s.useFree).tag k = s.tag k := rfl
@[simp] theorem State.useFree_settleCount (k : GroupId) : (s.useFree).settleCount k = s.settleCount k := rfl

/-! ## State.setClk -/

@[simp] theorem State.setClk_groups (b : Bool) : (s.setClk b).groups = s.groups := rfl
@[simp] theorem State.setClk_free (b : Bool) : (s.setClk b).free = s.free := rfl
@[simp] theorem State.setClk_windows (b : Bool) : (s.setClk b).windows = s.windows := rfl
@[simp] theorem State.setClk_ingress (b : Bool) : (s.setClk b).ingress = s.ingress := rfl
@[simp] theorem State.setClk_fencedOn (b : Bool) : (s.setClk b).fencedOn = s.fencedOn := rfl
@[simp] theorem State.setClk_response (b : Bool) : (s.setClk b).response = s.response := rfl
@[simp] theorem State.setClk_nextId (b : Bool) : (s.setClk b).nextId = s.nextId := rfl
@[simp] theorem State.setClk_engine (b : Bool) : (s.setClk b).engine = s.engine := rfl
@[simp] theorem State.setClk_port (b : Bool) : (s.setClk b).port = s.port := rfl
@[simp] theorem State.setClk_timebase (b : Bool) : (s.setClk b).timebase = s.timebase := rfl
@[simp] theorem State.setClk_points (b : Bool) : (s.setClk b).points = s.points := rfl
@[simp] theorem State.setClk_launchQueue (b : Bool) : (s.setClk b).launchQueue = s.launchQueue := rfl
@[simp] theorem State.setClk_trigLevel (b : Bool) : (s.setClk b).trigLevel = s.trigLevel := rfl
@[simp] theorem State.setClk_missedEdges (b : Bool) : (s.setClk b).missedEdges = s.missedEdges := rfl
@[simp] theorem State.setClk_completions (b : Bool) : (s.setClk b).completions = s.completions := rfl
@[simp] theorem State.setClk_reported (b : Bool) : (s.setClk b).reported = s.reported := rfl
@[simp] theorem State.setClk_irq (b : Bool) : (s.setClk b).irq = s.irq := rfl
@[simp] theorem State.setClk_irqLow (b : Bool) : (s.setClk b).irqLow = s.irqLow := rfl
@[simp] theorem State.setClk_link (b : Bool) : (s.setClk b).link = s.link := rfl
@[simp] theorem State.setClk_inReset (b : Bool) : (s.setClk b).inReset = s.inReset := rfl
@[simp] theorem State.setClk_clkRuns (b : Bool) : (s.setClk b).clkRuns = b := rfl
@[simp] theorem State.setClk_freeIndex (b : Bool) : (s.setClk b).freeIndex = s.freeIndex := rfl
@[simp] theorem State.setClk_pending (b : Bool) : (s.setClk b).pending = s.pending := rfl
@[simp] theorem State.setClk_group (b : Bool) (k : GroupId) : (s.setClk b).group k = s.group k := rfl
@[simp] theorem State.setClk_window (b : Bool) (k : Fin 16) : (s.setClk b).window k = s.window k := rfl
@[simp] theorem State.setClk_point (b : Bool) (k : Fin 8) : (s.setClk b).point k = s.point k := rfl
@[simp] theorem State.setClk_tag (b : Bool) (k : TagId) : (s.setClk b).tag k = s.tag k := rfl
@[simp] theorem State.setClk_settleCount (b : Bool) (k : GroupId) : (s.setClk b).settleCount k = s.settleCount k := rfl

/-! ## State.setTrigLevel -/

@[simp] theorem State.setTrigLevel_groups (b : Bool) : (s.setTrigLevel b).groups = s.groups := rfl
@[simp] theorem State.setTrigLevel_free (b : Bool) : (s.setTrigLevel b).free = s.free := rfl
@[simp] theorem State.setTrigLevel_windows (b : Bool) : (s.setTrigLevel b).windows = s.windows := rfl
@[simp] theorem State.setTrigLevel_ingress (b : Bool) : (s.setTrigLevel b).ingress = s.ingress := rfl
@[simp] theorem State.setTrigLevel_fencedOn (b : Bool) : (s.setTrigLevel b).fencedOn = s.fencedOn := rfl
@[simp] theorem State.setTrigLevel_response (b : Bool) : (s.setTrigLevel b).response = s.response := rfl
@[simp] theorem State.setTrigLevel_nextId (b : Bool) : (s.setTrigLevel b).nextId = s.nextId := rfl
@[simp] theorem State.setTrigLevel_engine (b : Bool) : (s.setTrigLevel b).engine = s.engine := rfl
@[simp] theorem State.setTrigLevel_port (b : Bool) : (s.setTrigLevel b).port = s.port := rfl
@[simp] theorem State.setTrigLevel_timebase (b : Bool) : (s.setTrigLevel b).timebase = s.timebase := rfl
@[simp] theorem State.setTrigLevel_points (b : Bool) : (s.setTrigLevel b).points = s.points := rfl
@[simp] theorem State.setTrigLevel_launchQueue (b : Bool) : (s.setTrigLevel b).launchQueue = s.launchQueue := rfl
@[simp] theorem State.setTrigLevel_trigLevel (b : Bool) : (s.setTrigLevel b).trigLevel = b := rfl
@[simp] theorem State.setTrigLevel_missedEdges (b : Bool) : (s.setTrigLevel b).missedEdges = s.missedEdges := rfl
@[simp] theorem State.setTrigLevel_completions (b : Bool) : (s.setTrigLevel b).completions = s.completions := rfl
@[simp] theorem State.setTrigLevel_reported (b : Bool) : (s.setTrigLevel b).reported = s.reported := rfl
@[simp] theorem State.setTrigLevel_irq (b : Bool) : (s.setTrigLevel b).irq = s.irq := rfl
@[simp] theorem State.setTrigLevel_irqLow (b : Bool) : (s.setTrigLevel b).irqLow = s.irqLow := rfl
@[simp] theorem State.setTrigLevel_link (b : Bool) : (s.setTrigLevel b).link = s.link := rfl
@[simp] theorem State.setTrigLevel_inReset (b : Bool) : (s.setTrigLevel b).inReset = s.inReset := rfl
@[simp] theorem State.setTrigLevel_clkRuns (b : Bool) : (s.setTrigLevel b).clkRuns = s.clkRuns := rfl
@[simp] theorem State.setTrigLevel_freeIndex (b : Bool) : (s.setTrigLevel b).freeIndex = s.freeIndex := rfl
@[simp] theorem State.setTrigLevel_pending (b : Bool) : (s.setTrigLevel b).pending = s.pending := rfl
@[simp] theorem State.setTrigLevel_group (b : Bool) (k : GroupId) : (s.setTrigLevel b).group k = s.group k := rfl
@[simp] theorem State.setTrigLevel_window (b : Bool) (k : Fin 16) : (s.setTrigLevel b).window k = s.window k := rfl
@[simp] theorem State.setTrigLevel_point (b : Bool) (k : Fin 8) : (s.setTrigLevel b).point k = s.point k := rfl
@[simp] theorem State.setTrigLevel_tag (b : Bool) (k : TagId) : (s.setTrigLevel b).tag k = s.tag k := rfl
@[simp] theorem State.setTrigLevel_settleCount (b : Bool) (k : GroupId) : (s.setTrigLevel b).settleCount k = s.settleCount k := rfl

/-! ## State.setMissed -/

@[simp] theorem State.setMissed_groups (m : MissedEdges) : (s.setMissed m).groups = s.groups := rfl
@[simp] theorem State.setMissed_free (m : MissedEdges) : (s.setMissed m).free = s.free := rfl
@[simp] theorem State.setMissed_windows (m : MissedEdges) : (s.setMissed m).windows = s.windows := rfl
@[simp] theorem State.setMissed_ingress (m : MissedEdges) : (s.setMissed m).ingress = s.ingress := rfl
@[simp] theorem State.setMissed_fencedOn (m : MissedEdges) : (s.setMissed m).fencedOn = s.fencedOn := rfl
@[simp] theorem State.setMissed_response (m : MissedEdges) : (s.setMissed m).response = s.response := rfl
@[simp] theorem State.setMissed_nextId (m : MissedEdges) : (s.setMissed m).nextId = s.nextId := rfl
@[simp] theorem State.setMissed_engine (m : MissedEdges) : (s.setMissed m).engine = s.engine := rfl
@[simp] theorem State.setMissed_port (m : MissedEdges) : (s.setMissed m).port = s.port := rfl
@[simp] theorem State.setMissed_timebase (m : MissedEdges) : (s.setMissed m).timebase = s.timebase := rfl
@[simp] theorem State.setMissed_points (m : MissedEdges) : (s.setMissed m).points = s.points := rfl
@[simp] theorem State.setMissed_launchQueue (m : MissedEdges) : (s.setMissed m).launchQueue = s.launchQueue := rfl
@[simp] theorem State.setMissed_trigLevel (m : MissedEdges) : (s.setMissed m).trigLevel = s.trigLevel := rfl
@[simp] theorem State.setMissed_missedEdges (m : MissedEdges) : (s.setMissed m).missedEdges = m := rfl
@[simp] theorem State.setMissed_completions (m : MissedEdges) : (s.setMissed m).completions = s.completions := rfl
@[simp] theorem State.setMissed_reported (m : MissedEdges) : (s.setMissed m).reported = s.reported := rfl
@[simp] theorem State.setMissed_irq (m : MissedEdges) : (s.setMissed m).irq = s.irq := rfl
@[simp] theorem State.setMissed_irqLow (m : MissedEdges) : (s.setMissed m).irqLow = s.irqLow := rfl
@[simp] theorem State.setMissed_link (m : MissedEdges) : (s.setMissed m).link = s.link := rfl
@[simp] theorem State.setMissed_inReset (m : MissedEdges) : (s.setMissed m).inReset = s.inReset := rfl
@[simp] theorem State.setMissed_clkRuns (m : MissedEdges) : (s.setMissed m).clkRuns = s.clkRuns := rfl
@[simp] theorem State.setMissed_freeIndex (m : MissedEdges) : (s.setMissed m).freeIndex = s.freeIndex := rfl
@[simp] theorem State.setMissed_pending (m : MissedEdges) : (s.setMissed m).pending = s.pending := rfl
@[simp] theorem State.setMissed_group (m : MissedEdges) (k : GroupId) : (s.setMissed m).group k = s.group k := rfl
@[simp] theorem State.setMissed_window (m : MissedEdges) (k : Fin 16) : (s.setMissed m).window k = s.window k := rfl
@[simp] theorem State.setMissed_point (m : MissedEdges) (k : Fin 8) : (s.setMissed m).point k = s.point k := rfl
@[simp] theorem State.setMissed_tag (m : MissedEdges) (k : TagId) : (s.setMissed m).tag k = s.tag k := rfl
@[simp] theorem State.setMissed_settleCount (m : MissedEdges) (k : GroupId) : (s.setMissed m).settleCount k = s.settleCount k := rfl

/-! ## State.setReported -/

@[simp] theorem State.setReported_groups (v : List ReportedCounts) : (s.setReported v).groups = s.groups := rfl
@[simp] theorem State.setReported_free (v : List ReportedCounts) : (s.setReported v).free = s.free := rfl
@[simp] theorem State.setReported_windows (v : List ReportedCounts) : (s.setReported v).windows = s.windows := rfl
@[simp] theorem State.setReported_ingress (v : List ReportedCounts) : (s.setReported v).ingress = s.ingress := rfl
@[simp] theorem State.setReported_fencedOn (v : List ReportedCounts) : (s.setReported v).fencedOn = s.fencedOn := rfl
@[simp] theorem State.setReported_response (v : List ReportedCounts) : (s.setReported v).response = s.response := rfl
@[simp] theorem State.setReported_nextId (v : List ReportedCounts) : (s.setReported v).nextId = s.nextId := rfl
@[simp] theorem State.setReported_engine (v : List ReportedCounts) : (s.setReported v).engine = s.engine := rfl
@[simp] theorem State.setReported_port (v : List ReportedCounts) : (s.setReported v).port = s.port := rfl
@[simp] theorem State.setReported_timebase (v : List ReportedCounts) : (s.setReported v).timebase = s.timebase := rfl
@[simp] theorem State.setReported_points (v : List ReportedCounts) : (s.setReported v).points = s.points := rfl
@[simp] theorem State.setReported_launchQueue (v : List ReportedCounts) : (s.setReported v).launchQueue = s.launchQueue := rfl
@[simp] theorem State.setReported_trigLevel (v : List ReportedCounts) : (s.setReported v).trigLevel = s.trigLevel := rfl
@[simp] theorem State.setReported_missedEdges (v : List ReportedCounts) : (s.setReported v).missedEdges = s.missedEdges := rfl
@[simp] theorem State.setReported_completions (v : List ReportedCounts) : (s.setReported v).completions = s.completions := rfl
@[simp] theorem State.setReported_reported (v : List ReportedCounts) : (s.setReported v).reported = v := rfl
@[simp] theorem State.setReported_irq (v : List ReportedCounts) : (s.setReported v).irq = s.irq := rfl
@[simp] theorem State.setReported_irqLow (v : List ReportedCounts) : (s.setReported v).irqLow = s.irqLow := rfl
@[simp] theorem State.setReported_link (v : List ReportedCounts) : (s.setReported v).link = s.link := rfl
@[simp] theorem State.setReported_inReset (v : List ReportedCounts) : (s.setReported v).inReset = s.inReset := rfl
@[simp] theorem State.setReported_clkRuns (v : List ReportedCounts) : (s.setReported v).clkRuns = s.clkRuns := rfl
@[simp] theorem State.setReported_freeIndex (v : List ReportedCounts) : (s.setReported v).freeIndex = s.freeIndex := rfl
@[simp] theorem State.setReported_pending (v : List ReportedCounts) : (s.setReported v).pending = s.pending := rfl
@[simp] theorem State.setReported_group (v : List ReportedCounts) (k : GroupId) : (s.setReported v).group k = s.group k := rfl
@[simp] theorem State.setReported_window (v : List ReportedCounts) (k : Fin 16) : (s.setReported v).window k = s.window k := rfl
@[simp] theorem State.setReported_point (v : List ReportedCounts) (k : Fin 8) : (s.setReported v).point k = s.point k := rfl
@[simp] theorem State.setReported_tag (v : List ReportedCounts) (k : TagId) : (s.setReported v).tag k = s.tag k := rfl
@[simp] theorem State.setReported_settleCount (v : List ReportedCounts) (k : GroupId) : (s.setReported v).settleCount k = s.settleCount k := rfl

/-! ## One record of a table -/

@[simp] theorem State.group_setGroup_self (g : GroupId) (r : GroupRecord) : (s.setGroup g r).group g = r := by
  simp [State.group, State.setGroup]

theorem State.group_setGroup_ne {g k : GroupId} (h : k ≠ g) (r : GroupRecord) : (s.setGroup g r).group k = s.group k := by
  have : g.val ≠ k.val := fun e => h (Fin.ext e.symm)
  simp [State.group, State.setGroup, this]

theorem State.group_setGroup (g k : GroupId) (r : GroupRecord) :
    (s.setGroup g r).group k = if k = g then r else s.group k := by
  by_cases h : k = g
  · simp [h]
  · simp [h, State.group_setGroup_ne]

theorem State.modifyGroup_eq (g : GroupId) (f : GroupRecord → GroupRecord) :
    s.modifyGroup g f = s.setGroup g (f (s.group g)) := rfl

@[simp] theorem State.setGroup_setGroup (g : GroupId) (r r' : GroupRecord) :
    (s.setGroup g r).setGroup g r' = s.setGroup g r' := by
  simp [State.setGroup]

@[simp] theorem State.setGroup_group (g : GroupId) : s.setGroup g (s.group g) = s := by
  simp [State.setGroup, State.group]

@[simp] theorem State.window_setWindow_self (w : Fin 16) (r : Window) : (s.setWindow w r).window w = r := by
  simp [State.window, State.setWindow]

theorem State.window_setWindow_ne {w k : Fin 16} (h : k ≠ w) (r : Window) :
    (s.setWindow w r).window k = s.window k := by
  have : w.val ≠ k.val := fun e => h (Fin.ext e.symm)
  simp [State.window, State.setWindow, this]

@[simp] theorem State.setWindow_window (w : Fin 16) : s.setWindow w (s.window w) = s := by
  simp [State.setWindow, State.window]

@[simp] theorem State.point_setPoint_self (p : Fin 8) (r : LaunchPoint) : (s.setPoint p r).point p = r := by
  simp [State.point, State.setPoint]

theorem State.point_setPoint_ne {p k : Fin 8} (h : k ≠ p) (r : LaunchPoint) : (s.setPoint p r).point k = s.point k := by
  have : p.val ≠ k.val := fun e => h (Fin.ext e.symm)
  simp [State.point, State.setPoint, this]

/-- Two states with the same groups, one for one, and the same other fields are the same. -/
theorem State.groups_ext {v w : Vector GroupRecord 8} (h : ∀ g : GroupId, v[g] = w[g]) : v = w :=
  Vector.ext fun i hi => h ⟨i, hi⟩

end Sys2Proof.Machine
end

