-- ==== Sys2Proof/Laws/Clock.lean ====
section
/-!
SUPPORT. What one CLK period can do (R89, R99, R100, R109, R121, R190): one lemma for each of its parts.
-/
namespace Sys2Proof.Machine

open Safety

variable (s : State)

/-- R100: a tag is due when it is BUSY and its timer has reached its timeout. -/
theorem isDue_iff (t : TagId) : (s.tag t).isDue = true ↔ TimerDue s t := by
  cases h : s.tag t <;> simp [TagState.isDue, TimerDue, h]

/-- R99: every response timer advances, and nothing else changes. -/
theorem advanceTimers_eq : s.advanceTimers = timersAdvanced s := by
  simp only [State.advanceTimers, State.setPort, timersAdvanced]
  congr 3
  funext x
  cases x <;> rfl

/-- R100: a tag that is due times out, and any other stays as it is. -/
theorem timeOutIfDue_cases (t : TagId) :
    (TimerDue s t ∧ s.timeOutIfDue t = s.timeOut t) ∨ (¬ TimerDue s t ∧ s.timeOutIfDue t = s) := by
  rw [← isDue_iff]
  unfold State.timeOutIfDue
  split
  · next h => exact .inl ⟨h, rfl⟩
  · next h => exact .inr ⟨h, rfl⟩

/-- R109, R121: the line timer advances, and expires when it has reached the line period or already stood above it. -/
theorem tbclkPeriod_cases :
    (s.timebase.timer + 1 < s.timebase.linePeriod ∧
      s.tbclkPeriod = s.setTimebase { s.timebase with timer := s.timebase.timer + 1 }) ∨
    (s.timebase.linePeriod ≤ s.timebase.timer + 1 ∧
      s.tbclkPeriod = (s.setTimebase { s.timebase with timer := s.timebase.timer + 1 }).expireLine) := by
  unfold State.tbclkPeriod
  by_cases h : s.timebase.linePeriod ≤ s.timebase.timer + 1
  · exact .inr ⟨h, by simp [h]⟩
  · exact .inl ⟨Nat.lt_of_not_le h, by simp [h]⟩

/-- R190: everything a step on an empty queue can do: CLK stands still or the part is in reset, and only the free value has
been asked for; or CLK runs and one of its periods passes. -/
theorem idle_cases :
    ((s.inReset = true ∨ Config.clkRuns s.freeIndex = false) ∧ s.idle = s.useFree.setClk (Config.clkRuns s.freeIndex)) ∨
      (s.inReset = false ∧ Config.clkRuns s.freeIndex = true ∧ s.idle = (s.useFree.setClk true).clockPeriod) := by
  cases hr : s.inReset <;> cases hc : Config.clkRuns s.freeIndex <;>
    simp [State.idle, hc, State.whenRunning, State.takesEvents, State.setClk, State.useFree, hr]

end Sys2Proof.Machine
end

