-- ==== Sys2Proof/Laws/Groups.lean ====
section
/-!
SUPPORT. What the operations shared by the group commands and the launch unit can do: the offer of a record, the breaking of
successors, and the notices (R9, R24, R25, R153).
-/
namespace Sys2Proof.Machine

open Safety

variable (s : State) (g : GroupId)

/-! ## The offer of a record (R153) -/

/-- The offer of a record in the terms of the claims. -/
theorem offer_eq (kind : RecordKind) (group : Option GroupId) (report : Option ReleaseReport) (flags : RecordFlags) :
    s.offer kind group report flags = withRecord s
      { kind, group, report, frame := s.timebase.frame, line := s.timebase.line, flags, lost := 0 } := by
  unfold State.offer CompletionQueue.offer State.setCompletions withRecord
  split <;> rfl

theorem offerPlain_eq (kind : RecordKind) (group : Option GroupId) :
    s.offerPlain kind group = withRecord s (plainRecord s kind group) := offer_eq s kind group none {}

/-! ## The breaking of successors (R9) -/

/-- One broken successor. -/
theorem breakOne_eq (k : GroupId) : s.breakOne k =
    withRecord (s.setGroup k (s.group k).toClosed) (plainRecord s .chainBroken (some k)) := by
  unfold State.breakOne
  rw [offerPlain_eq]
  rfl

/-- With no successor of `g` no group but `g` waits on it. -/
theorem waitsOn_of_noSuccessor {s : State} {g : GroupId} (h : NoSuccessor s g) (fuel : Nat) {k : GroupId} (hk : k ≠ g) :
    s.waitsOn g fuel k = false := by
  induction fuel generalizing k with
  | zero => rfl
  | succ n ih =>
    unfold State.waitsOn
    by_cases ha : (s.group k).state = .armed
    · simp only [ha, beq_self_eq_true, Bool.true_and]
      split
      · next m e =>
        have hm : m ≠ g := by
          rintro rfl
          exact h k ⟨ha, e⟩
        simp [hm, ih hm]
      · rfl
    · simp [ha]

/-- With no successor there is nothing to break. -/
theorem breakSuccessors_of_noSuccessor {s : State} {g : GroupId} (h : NoSuccessor s g) : s.breakSuccessors g = s := by
  have hb : s.brokenBy g = [] := by
    unfold State.brokenBy
    rw [List.filter_eq_nil_iff]
    intro k _ hk
    simp only [Bool.and_eq_true, bne_iff_ne, ne_eq] at hk
    rw [waitsOn_of_noSuccessor h 8 hk.1] at hk
    exact absurd hk.2 (by simp)
  simp [State.breakSuccessors, hb]

/-- A group that leaves ARMED gains no successor by it. -/
theorem noSuccessor_setGroup {s : State} {g : GroupId} (h : NoSuccessor s g) {r : GroupRecord} (hr : r.state ≠ .armed) :
    NoSuccessor (s.setGroup g r) g := by
  intro k hk
  by_cases e : k = g
  · subst e
    simp only [IsSuccessor, State.group_setGroup_self] at hk
    exact hr hk.1
  · rw [IsSuccessor, State.group_setGroup_ne _ e] at hk
    exact h k hk

/-- R9: the breaking of a list of groups changes the records of these groups alone. -/
theorem group_foldl_breakOne (l : List GroupId) (k : GroupId) :
    (l.foldl State.breakOne s).group k = if k ∈ l then (s.group k).toClosed else s.group k := by
  induction l generalizing s with
  | nil => simp
  | cons a l ih =>
    rw [List.foldl_cons, ih]
    have hb : (s.breakOne a).group k = if k = a then (s.group k).toClosed else s.group k := by
      rw [breakOne_eq]
      show (s.setGroup a _).group k = _
      rw [State.group_setGroup]
      split
      · next e => rw [e]
      · rfl
    rw [hb]
    by_cases hk : k = a
    · subst hk
      simp [GroupRecord.toClosed]
    · simp [hk]

/-- R9: the breaking of successors in one line: the records that change, and what does not. -/
theorem group_breakSuccessors (k : GroupId) :
    (s.breakSuccessors g).group k = if k ∈ s.brokenBy g then (s.group k).toClosed else s.group k :=
  group_foldl_breakOne s _ k

/-- R9: the breaking of successors touches the group records and the completion queue and nothing else. -/
theorem breakSuccessors_rest :
    s.breakSuccessors g = { s with
      groups := (s.breakSuccessors g).groups
      completions := (s.breakSuccessors g).completions
      irqLow := (s.breakSuccessors g).irqLow } := by
  unfold State.breakSuccessors
  generalize s.brokenBy g = l
  induction l generalizing s with
  | nil => rfl
  | cons a l ih =>
    rw [List.foldl_cons]
    conv_lhs => rw [ih]
    rfl

/-! ## Notices (R24, R25) -/

/-- R24: everything a firing notice can do: an ARMED group becomes PENDING and takes the last place of the launch queue. -/
theorem firingNotice_eq : s.firingNotice g = (s.setGroup g (firedRecord (s.group g))).setLaunchQueue
    (if (s.group g).state = .armed then s.launchQueue ++ [g] else s.launchQueue) := by
  unfold State.firingNotice
  have hs : s.setGroup g (s.group g) = s := by simp
  cases h : (s.group g).state <;> simp only [firedRecord, h, reduceCtorEq, or_false, false_or, if_true, if_false]
  case idle => rw [hs]; rfl
  case opened => rw [hs]; rfl
  case closed => rw [hs]; rfl
  case armed => rfl
  case pending => simp only [State.modifyGroup, GroupRecord.missLaunch, saturate255, h]; rfl
  case releasing => simp only [State.modifyGroup, GroupRecord.missLaunch, saturate255, h]; rfl
  case faulted => rw [hs]; rfl

theorem group_firingNotice (k : GroupId) :
    (s.firingNotice g).group k = if k = g then firedRecord (s.group g) else s.group k := by
  rw [firingNotice_eq, State.setLaunchQueue_group, State.group_setGroup]

/-- R25: everything an expiry notice can do: nothing, force the launch, or cancel. -/
theorem expiryNotice_cases :
    ((s.group g).expired = false ∧ s.expiryNotice g = s) ∨
    ((s.group g).expired = true ∧ (s.group g).config.deadlineAction = .force ∧ s.expiryNotice g =
      (s.setGroup g { s.group g with state := .pending, deadlineRemaining := none, forced := true }).setLaunchQueue
        (s.launchQueue ++ [g])) ∨
    ((s.group g).expired = true ∧ (s.group g).config.deadlineAction = .cancel ∧ s.expiryNotice g =
      ((s.offerPlain .deadlineCancelled (some g)).emptyGroup g).breakSuccessors g) := by
  unfold State.expiryNotice
  split
  · next h =>
    split
    · next ha =>
      refine .inr (.inl ⟨h, ha, ?_⟩)
      simp [State.makePending, State.modifyGroup, State.appendLaunch, GroupRecord.toPending]
    · next ha => exact .inr (.inr ⟨h, ha, rfl⟩)
  · next h => exact .inl ⟨by simpa using h, rfl⟩

end Sys2Proof.Machine
end

