-- ==== Sys2Proof/Laws/Release.lean ====
section
/-!
SUPPORT. What the operations of the capture unit's judgement and of the release engine can do: everything each answers, with
the condition under which it does so (R54, R63, R81 to R92, R101).
-/
namespace Sys2Proof.Machine

variable (s : State)

/-! ## The judgement (R54) -/

/-- R54, R55, R63: everything a judgement can do, whatever happens between two of its beats. -/
theorem judge_cases (gap : State → State) :
    ((s.head? = none ∨ s.fencedOn ≠ none) ∧ s.judge gap = s) ∨
    ∃ u, s.head? = some u ∧ s.fencedOn = none ∧
      ((u.request.crossesBlock = true ∧ s.judge gap = s.modifyIngress u.id Ingress.failWhole) ∨
        (∃ g, u.request.crossesBlock = false ∧ s.fenceTest u.request = some g ∧ s.judge gap = s.setFence (some g)) ∨
        (u.request.crossesBlock = false ∧ s.fenceTest u.request = none ∧
          s.judge gap = (s.decideBeats gap u.id u.request).modifyIngress u.id Ingress.dispatch)) := by
  unfold State.judge
  cases hh : s.head? with
  | none => exact .inl ⟨.inl rfl, rfl⟩
  | some u =>
    cases hf : s.fencedOn with
    | some g => exact .inl ⟨.inr (by simp), rfl⟩
    | none =>
      refine .inr ⟨u, rfl, rfl, ?_⟩
      dsimp only
      unfold State.judgeHead
      split
      · next h => exact .inl ⟨h, rfl⟩
      · next h =>
        split
        · next g hg => exact .inr (.inl ⟨g, by simpa using h, hg, rfl⟩)
        · next hg => exact .inr (.inr ⟨by simpa using h, hg, rfl⟩)

/-- R54: the judgements of the end of a release are judgements with nothing between two beats. -/
theorem judgeTimes_eq_iterate (n : Nat) : s.judgeTimes n = (fun v : State => v.judge id)^[n] s := by
  induction n generalizing s with
  | zero => rfl
  | succ n ih => exact ih _

/-! ## The walk and the taking (R81 to R84) -/

/-- R84, R88: everything a walk can do: ask for the write of the next entry, or finish. -/
theorem walkOn_cases (finish : State → State) :
    (∃ e, s.nextEntry = some e ∧
      s.walkOn finish = s.setEngine { s.engine with write := .requested, copy := some e }) ∨
    (s.nextEntry = none ∧ s.walkOn finish = finish s) := by
  unfold State.walkOn
  split
  · next e h => exact .inl ⟨e, h, rfl⟩
  · next h => exact .inr ⟨h, rfl⟩

/-- R81, R83: everything the taking of the head can do. -/
theorem takeHead_cases :
    ((s.engine.state ≠ .idle ∨ s.launchQueue = []) ∧ s.takeHead = s) ∨
    ∃ g rest, s.engine.state = .idle ∧ s.launchQueue = g :: rest ∧
      ((s.settleCount g ≠ 0 ∧ s.takeHead = s.takeGroup g rest) ∨
        (s.settleCount g = 0 ∧
          s.takeHead = (s.takeGroup g rest).endSettling fun s => s.finishRelease .complete)) := by
  unfold State.takeHead
  split
  · next g rest he hq =>
    refine .inr ⟨g, rest, he, hq, ?_⟩
    dsimp only
    split
    · next h => exact .inr ⟨h, rfl⟩
    · next h => exact .inl ⟨h, rfl⟩
  · next h =>
    refine .inl ⟨?_, rfl⟩
    by_contra hc
    push Not at hc
    obtain ⟨g, rest, hq⟩ := List.exists_cons_of_ne_nil hc.2
    exact h g rest hc.1 hq

/-- R81: everything the taking of the next group can do. -/
theorem takeNext_cases :
    ((s.engine.state ≠ .idle ∨ s.launchQueue = []) ∧ s.takeNext = s) ∨
    (s.engine.state = .idle ∧ s.launchQueue ≠ [] ∧ s.takeNext = s.takeHead.grantAll) := by
  unfold State.takeNext
  split
  · next h =>
    simp only [Bool.and_eq_true, beq_iff_eq, Bool.not_eq_true', List.isEmpty_eq_false_iff] at h
    exact .inr ⟨h.1, h.2, rfl⟩
  · next h =>
    simp only [Bool.and_eq_true, beq_iff_eq, Bool.not_eq_true', List.isEmpty_eq_false_iff, not_and_or, not_not] at h
    exact .inl ⟨h, rfl⟩

/-- R4, R149: the report of a release record. -/
theorem report_eq (r : GroupRecord) : r.report = ⟨r.sequence, r.lastWritten, r.lastFailed⟩ := rfl

/-- R27, R133, R140, R153: everything the offer of a RELEASED record can do: the record is stored with the counts beside it,
or it is dropped and no count is reported. -/
theorem offerReleased_cases (g : GroupId) :
    (s.completions.records.length < 32 ∧ s.offerReleased g =
      (s.offer .released (some g) (some (s.group g).report) (s.group g).recordFlags).setReported
        (s.reported ++ [⟨(s.group g).missedCount, (s.group g).collisionCount⟩])) ∨
    (32 ≤ s.completions.records.length ∧ s.offerReleased g =
      s.offer .released (some g) (some (s.group g).report) (s.group g).recordFlags) := by
  unfold State.offerReleased
  split
  · next h => exact .inl ⟨h, rfl⟩
  · next h => exact .inr ⟨by omega, rfl⟩

/-! ## The end of a release and of a release write (R85 to R91) -/

/-- R89: the end of the release of the group in hand. -/
theorem finishRelease_of_group {s : State} {g : GroupId} (h : s.engine.group = some g) (o : ReleaseOutcome) :
    s.finishRelease o = ((s.closeRelease g o).setEngine {}).liftFence g := by
  simp [State.finishRelease, h]

/-- R64, R89: everything the lifting of the fence can do. -/
theorem liftFence_eq (g : GroupId) :
    s.liftFence g = s.setFence (if s.fencedOn = some g then none else s.fencedOn) := by
  unfold State.liftFence
  by_cases h : s.fencedOn = some g
  · simp [h]
  · simp only [h, if_false, beq_iff_eq]
    rfl

/-- R85 to R87, R91: everything the end of a release write can do. -/
theorem writeEnded_cases (answer : Answer) :
    (∃ g, s.engine.state = .draining ∧ s.engine.group = some g ∧
      ((answer = .error ∧ (s.group g).config.errorPolicy = .abort ∧ s.writeEnded answer =
          (s.setEngine { s.engine with failed := 1, write := .none, copy := none }).endRelease .fault) ∨
        ((answer = .okay ∨ (s.group g).config.errorPolicy = .carryOn) ∧ s.writeEnded answer =
          (((s.countWrite answer).passEntry g).dropWrite).walkOn fun s => s.endRelease .complete))) ∨
    (∃ g, s.engine.state = .stopping ∧ s.engine.group = some g ∧ s.writeEnded answer =
      (((s.countWrite answer).freeStopped g answer).dropWrite).endRelease .stopped) ∨
    (((s.engine.state ≠ .draining ∧ s.engine.state ≠ .stopping) ∨ s.engine.group = none) ∧ s.writeEnded answer = s) := by
  unfold State.writeEnded
  cases hs : s.engine.state <;> cases hg : s.engine.group
  case draining.some g =>
    refine .inl ⟨g, rfl, rfl, ?_⟩
    dsimp only
    unfold State.writeEndedDraining
    cases ha : answer <;> cases hp : (s.group g).config.errorPolicy
    · exact .inr ⟨.inl rfl, rfl⟩
    · exact .inr ⟨.inl rfl, rfl⟩
    · exact .inl ⟨rfl, rfl, rfl⟩
    · exact .inr ⟨.inr rfl, rfl⟩
  case stopping.some g => exact .inr (.inl ⟨g, rfl, rfl, rfl⟩)
  all_goals exact .inr (.inr ⟨by simp, rfl⟩)

/-! ## The events of the memory port (R100, R101) -/

/-- R101: everything a response can do. -/
theorem takeResponse_cases (t : TagId) (answer : Answer) (data : Word) :
    (s.tag t = .free ∧ s.takeResponse t answer data = s) ∨
    (s.tag t = .abandoned ∧ s.takeResponse t answer data = (s.setTag t .free).grantAll) ∨
    ∃ r n m, s.tag t = .busy r n m ∧
      s.takeResponse t answer data = ((s.handBack r answer data).setTag t .free).grantAll := by
  unfold State.takeResponse
  cases h : s.tag t with
  | free => exact .inl ⟨rfl, rfl⟩
  | abandoned => exact .inr (.inl ⟨rfl, rfl⟩)
  | busy r n m => exact .inr (.inr ⟨r, n, m, rfl, rfl⟩)

/-- R100: everything a timeout can do. -/
theorem timeOut_cases (t : TagId) :
    ((s.tag t = .free ∨ s.tag t = .abandoned) ∧ s.timeOut t = s) ∨
    ∃ r n m, s.tag t = .busy r n m ∧
      s.timeOut t = ((s.setTag t .abandoned).noteStuck.handBack r .error 0).grantAll := by
  unfold State.timeOut
  cases h : s.tag t with
  | free => exact .inl ⟨.inl rfl, rfl⟩
  | abandoned => exact .inl ⟨.inr rfl, rfl⟩
  | busy r n m => exact .inr ⟨r, n, m, rfl, rfl⟩

/-! ## The events between two beats (R54, R70) -/

/-- R54, R70: everything a response or a timeout between two beats can do: nothing, or what it does as an event of its own
when it does not end a release. -/
theorem takeBetween_cases (event : PortEvent) :
    s.takeBetween event = s ∨
    (∃ t answer data, event = .response t answer data ∧ s.barredBetweenBeats t answer data = false ∧
      s.takeBetween event = s.takeResponse t answer data) ∨
    (∃ t, event = .timeout t ∧ s.barredBetweenBeats t .error 0 = false ∧ s.takeBetween event = s.timeOut t) := by
  cases event with
  | response t answer data =>
    unfold State.takeBetween
    dsimp only
    split
    · exact .inl rfl
    · next h => exact .inr (.inl ⟨t, answer, data, rfl, by simpa using h, rfl⟩)
  | timeout t =>
    unfold State.takeBetween
    dsimp only
    split
    · exact .inl rfl
    · next h => exact .inr (.inr ⟨t, rfl, by simpa using h, rfl⟩)

/-- R83 to R86: everything the end of a request can do that ends no release: a beat finishes, the first release write is asked
for at the end of SETTLING, or the next one after the end of a release write. -/
theorem handBack_of_not_endsRelease {s : State} {request : PortRequest} {answer : Answer} {data : Word}
    (h : s.endsRelease request answer data = false) :
    (∃ r, request = .passThrough r ∧
      ((s.endPass r answer data).isSettled = false ∧ s.handBack request answer data = s.endPass r answer data ∨
        ∃ e, (s.endPass r answer data).isSettled = true ∧ s.nextEntry = some e ∧
          s.handBack request answer data = ((s.endPass r answer data).setEngine
            { s.engine with state := .draining }).requestWrite e)) ∨
    (∃ w, request = .release w ∧
      (((s.engine.state ≠ .draining ∧ s.engine.state ≠ .stopping) ∨ s.engine.group = none) ∧
          s.handBack request answer data = s ∨
        ∃ g e, s.engine.state = .draining ∧ s.engine.group = some g ∧
          ((s.countWrite answer).passEntry g).nextEntry = some e ∧
          s.handBack request answer data = (((s.countWrite answer).passEntry g).dropWrite).requestWrite e)) := by
  cases request with
  | passThrough r =>
    refine .inl ⟨r, rfl, ?_⟩
    unfold State.handBack State.settleOn
    dsimp only
    cases hs : (s.endPass r answer data).isSettled with
    | false => exact .inl ⟨rfl, rfl⟩
    | true =>
      have hd : s.engine.state = .settling ∧ ∃ g, s.engine.group = some g := by
        unfold State.isSettled at hs
        split at hs
        · next g h1 h2 => exact ⟨h1, g, h2⟩
        · simp at hs
      obtain ⟨h1, g, h2⟩ := hd
      unfold State.endsRelease at h
      simp only [h1, h2, hs, Bool.true_and, Option.isNone_eq_false_iff, Option.isSome_iff_exists] at h
      obtain ⟨e, he⟩ := h
      refine .inr ⟨e, rfl, he, ?_⟩
      have hn : ((s.endPass r answer data).setEngine { (s.endPass r answer data).engine with state := .draining }).nextEntry =
          some e := by rw [← he]; rfl
      simp only [if_true, State.endSettling, State.walkOn, hn]
      rfl
  | release w =>
    refine .inr ⟨w, rfl, ?_⟩
    unfold State.handBack
    dsimp only
    rcases writeEnded_cases s answer with ⟨g, h1, h2, h3⟩ | ⟨g, h1, h2, -⟩ | ⟨h1, h2⟩
    · unfold State.endsRelease at h
      simp only [h1, h2, Bool.or_eq_false_iff, Bool.and_eq_false_iff, State.walkEnds, Option.isNone_eq_false_iff,
        Option.isSome_iff_exists] at h
      obtain ⟨hp, e, he⟩ := h
      refine .inr ⟨g, e, h1, h2, he, ?_⟩
      rcases h3 with ⟨ha, hq, -⟩ | ⟨-, h3⟩
      · simp [ha, hq] at hp
      · have hn : (((s.countWrite answer).passEntry g).dropWrite).nextEntry = some e := by rw [← he]; rfl
        rw [h3]
        simp only [State.walkOn, hn]
    · simp [State.endsRelease, h1, h2] at h
    · exact .inl ⟨h1, h2⟩

end Sys2Proof.Machine
end

