-- ==== Sys2Proof/Laws/Judgement.lean ====
section
/-!
SUPPORT. Which events of the memory port are barred between two beats of a judgement, in the terms of the claims (R54).
-/
namespace Sys2Proof.Machine

open Safety

variable (s : State)

/-- R85, R86: when the walk after a release write reaches the end of the list. -/
theorem walkEnds_iff {s : State} {g : GroupId} (hg : s.engine.group = some g) (answer : Answer) :
    s.walkEnds g answer = true ↔ s.engine.kind = none ∨
      s.engine.kind = some .oneShot ∧ (s.group g).entries.length ≤ 1 ∨
      s.engine.kind = some .repeating ∧ (s.group g).entries.length ≤ s.engine.cursor + 1 := by
  have hc : ∃ e : Engine, s.countWrite answer = s.setEngine e ∧ e.group = some g ∧ e.kind = s.engine.kind ∧
      e.cursor = s.engine.cursor := by cases answer <;> exact ⟨_, rfl, hg, rfl, rfl⟩
  obtain ⟨e, he, h1, h2, h3⟩ := hc
  unfold State.walkEnds State.passEntry
  rw [he, State.setEngine_engine]
  cases hk : s.engine.kind with
  | none => simp [State.nextEntry, h2.trans hk]
  | some kind =>
    cases kind with
    | oneShot =>
      simp only [h2.trans hk, State.freeHead, State.setEngine_group]
      cases hl : (s.group g).entries with
      | nil => simp [State.nextEntry, h1, h2.trans hk, hl]
      | cons a l => cases l <;> simp [State.nextEntry, h1, h2.trans hk, State.modifyGroup]
    | repeating => simp [h2.trans hk, State.nextEntry, h1, h3]

/-- R83, R85 to R88, R91: when the end of a request ends the release in hand. -/
theorem endsRelease_iff (request : PortRequest) (answer : Answer) (data : Word) :
    s.endsRelease request answer data = true ↔ EndsRelease s request answer := by
  cases hg : s.engine.group with
  | none => unfold State.endsRelease; cases request <;> cases s.engine.state <;> simp [EndsRelease, hg]
  | some g =>
    unfold State.endsRelease
    cases request with
    | release e => cases hs : s.engine.state <;> cases answer <;> simp [EndsRelease, hg, hs, walkEnds_iff hg]
    | passThrough r =>
      cases hs : s.engine.state
      case settling =>
        have hn : s.nextEntry.isNone = true ↔ s.engine.kind = none ∨ WalkedToEnd s g := by
          cases hk : s.engine.kind with
          | none => simp [State.nextEntry, hg, hk]
          | some kind => cases kind <;> simp [WalkedToEnd, State.nextEntry, hg, hk]
        have hi : (s.endPass r answer data).isSettled = true ↔ (settleLowered s.port r.mark)[g] = 0 := by
          have he : (s.endPass r answer data).engine = s.engine := rfl
          have hc : (s.endPass r answer data).settleCount g = (settleLowered s.port r.mark)[g] := by
            unfold State.endPass; cases r.mark <;> rfl
          simp [State.isSettled, he, hs, hg, hc]
        simp [EndsRelease, hg, hs, hn, hi]
      all_goals simp [EndsRelease, hg, hs]

/-- R54: what the model bars between two beats is what ends a release. -/
theorem barredBetweenBeats_iff (t : TagId) (answer : Answer) (data : Word) :
    s.barredBetweenBeats t answer data = true ↔ Barred s (.response t answer data) := by
  unfold State.barredBetweenBeats
  cases h : s.tag t with
  | free => simp [Barred, h]
  | abandoned => simp [Barred, h]
  | busy r n m => simp [Barred, h, endsRelease_iff]

/-- R54: a timeout is barred as a response with ERROR would be. -/
theorem barred_timeout_iff (t : TagId) (data : Word) : Barred s (.timeout t) ↔ Barred s (.response t .error data) := Iff.rfl

end Sys2Proof.Machine
end

