-- ==== Sys2Proof/Laws/Keeps.lean ====
section
/-!
SUPPORT. What the shared operations of the blocks never change: the configuration of every block, the control link, the
model's queue, and the records already stored. One lemma for each operation; a claim about a command follows from those of
the operations it is made of.
-/
namespace Sys2Proof.Machine

/-- From `s` to `t` no configuration has changed, no stored record has gone, and the control link, the reset and the queue of
commands are as they were. -/
structure Keeps (s t : State) : Prop where
  config : ∀ g : GroupId, (t.group g).config = (s.group g).config
  windows : t.windows = s.windows
  points : t.points = s.points
  irq : t.irq = s.irq
  timeout : t.port.timeout = s.port.timeout
  mode : t.timebase.mode = s.timebase.mode
  linePeriod : t.timebase.linePeriod = s.timebase.linePeriod
  lines : t.timebase.lines = s.timebase.lines
  tolerance : t.timebase.tolerance = s.timebase.tolerance
  link : t.link = s.link
  inReset : t.inReset = s.inReset
  pending : t.pending = s.pending
  records : s.completions.records <+: t.completions.records

variable {s t u : State}

theorem Keeps.refl (s : State) : Keeps s s :=
  ⟨fun _ => rfl, rfl, rfl, rfl, rfl, rfl, rfl, rfl, rfl, rfl, rfl, rfl, List.prefix_refl _⟩

theorem Keeps.trans (h : Keeps s t) (k : Keeps t u) : Keeps s u :=
  ⟨fun g => (k.config g).trans (h.config g), k.windows.trans h.windows, k.points.trans h.points, k.irq.trans h.irq,
    k.timeout.trans h.timeout, k.mode.trans h.mode, k.linePeriod.trans h.linePeriod, k.lines.trans h.lines,
    k.tolerance.trans h.tolerance, k.link.trans h.link, k.inReset.trans h.inReset, k.pending.trans h.pending,
    h.records.trans k.records⟩

/-- A fold of operations that each keep. -/
theorem Keeps.foldl {α : Type} {f : State → α → State} (h : ∀ s a, Keeps s (f s a)) (l : List α) (s : State) :
    Keeps s (l.foldl f s) := by
  induction l generalizing s with
  | nil => exact .refl s
  | cons a l ih => exact (h s a).trans (ih _)

/-! ## The updates of one field -/

theorem keeps_setGroup {s : State} {g : GroupId} {r : GroupRecord} (h : r.config = (s.group g).config) :
    Keeps s (s.setGroup g r) := by
  refine ⟨fun k => ?_, rfl, rfl, rfl, rfl, rfl, rfl, rfl, rfl, rfl, rfl, rfl, List.prefix_refl _⟩
  rw [State.group_setGroup]
  split
  · next e => rw [h, e]
  · rfl

theorem keeps_modifyGroup {s : State} {g : GroupId} {f : GroupRecord → GroupRecord} (h : ∀ r, (f r).config = r.config) :
    Keeps s (s.modifyGroup g f) := keeps_setGroup (h _)

theorem keeps_setEngine (s : State) (e : Engine) : Keeps s (s.setEngine e) :=
  ⟨fun _ => rfl, rfl, rfl, rfl, rfl, rfl, rfl, rfl, rfl, rfl, rfl, rfl, List.prefix_refl _⟩

theorem keeps_setPort {s : State} {p : MemoryPort} (h : p.timeout = s.port.timeout) : Keeps s (s.setPort p) :=
  ⟨fun _ => rfl, rfl, rfl, rfl, h, rfl, rfl, rfl, rfl, rfl, rfl, rfl, List.prefix_refl _⟩

theorem keeps_setTimebase {s : State} {b : Timebase} (h : b.mode = s.timebase.mode)
    (hp : b.linePeriod = s.timebase.linePeriod) (hl : b.lines = s.timebase.lines)
    (ht : b.tolerance = s.timebase.tolerance) : Keeps s (s.setTimebase b) :=
  ⟨fun _ => rfl, rfl, rfl, rfl, rfl, h, hp, hl, ht, rfl, rfl, rfl, List.prefix_refl _⟩

theorem keeps_setLaunchQueue (s : State) (q : List GroupId) : Keeps s (s.setLaunchQueue q) :=
  ⟨fun _ => rfl, rfl, rfl, rfl, rfl, rfl, rfl, rfl, rfl, rfl, rfl, rfl, List.prefix_refl _⟩

theorem keeps_setIngress (s : State) (q : List Ingress) : Keeps s (s.setIngress q) :=
  ⟨fun _ => rfl, rfl, rfl, rfl, rfl, rfl, rfl, rfl, rfl, rfl, rfl, rfl, List.prefix_refl _⟩

theorem keeps_setFence (s : State) (g : Option GroupId) : Keeps s (s.setFence g) :=
  ⟨fun _ => rfl, rfl, rfl, rfl, rfl, rfl, rfl, rfl, rfl, rfl, rfl, rfl, List.prefix_refl _⟩

theorem keeps_setFree (s : State) (n : Nat) : Keeps s (s.setFree n) :=
  ⟨fun _ => rfl, rfl, rfl, rfl, rfl, rfl, rfl, rfl, rfl, rfl, rfl, rfl, List.prefix_refl _⟩

theorem keeps_useFree (s : State) : Keeps s s.useFree :=
  ⟨fun _ => rfl, rfl, rfl, rfl, rfl, rfl, rfl, rfl, rfl, rfl, rfl, rfl, List.prefix_refl _⟩

theorem keeps_setClk (s : State) (b : Bool) : Keeps s (s.setClk b) :=
  ⟨fun _ => rfl, rfl, rfl, rfl, rfl, rfl, rfl, rfl, rfl, rfl, rfl, rfl, List.prefix_refl _⟩

theorem keeps_setTag (s : State) (t : TagId) (x : TagState) : Keeps s (s.setTag t x) := keeps_setPort rfl

theorem keeps_setTrigLevel (s : State) (b : Bool) : Keeps s (s.setTrigLevel b) :=
  ⟨fun _ => rfl, rfl, rfl, rfl, rfl, rfl, rfl, rfl, rfl, rfl, rfl, rfl, List.prefix_refl _⟩

theorem keeps_setMissed (s : State) (m : MissedEdges) : Keeps s (s.setMissed m) :=
  ⟨fun _ => rfl, rfl, rfl, rfl, rfl, rfl, rfl, rfl, rfl, rfl, rfl, rfl, List.prefix_refl _⟩

theorem keeps_setReported (s : State) (v : List ReportedCounts) : Keeps s (s.setReported v) :=
  ⟨fun _ => rfl, rfl, rfl, rfl, rfl, rfl, rfl, rfl, rfl, rfl, rfl, rfl, List.prefix_refl _⟩

/-! ## The completion queue, the group records and the launch queue -/

theorem CompletionQueue.offer_records (q : CompletionQueue) (r : CompletionRecord) :
    q.records <+: (q.offer r).records := by
  unfold CompletionQueue.offer
  split
  · exact List.prefix_append _ _
  · exact List.prefix_refl _

theorem keeps_offer (s : State) (kind : RecordKind) (group : Option GroupId) (report : Option ReleaseReport)
    (flags : RecordFlags) : Keeps s (s.offer kind group report flags) :=
  ⟨fun _ => rfl, rfl, rfl, rfl, rfl, rfl, rfl, rfl, rfl, rfl, rfl, rfl, CompletionQueue.offer_records _ _⟩

theorem keeps_offerPlain (s : State) (kind : RecordKind) (group : Option GroupId) : Keeps s (s.offerPlain kind group) :=
  keeps_offer ..

theorem keeps_emptyGroup (s : State) (g : GroupId) : Keeps s (s.emptyGroup g) :=
  (keeps_setFree s _).trans (keeps_modifyGroup (by intro _; rfl))

theorem keeps_appendLaunch (s : State) (g : GroupId) : Keeps s (s.appendLaunch g) := keeps_setLaunchQueue ..

theorem keeps_removeLaunch (s : State) (g : GroupId) : Keeps s (s.removeLaunch g) := keeps_setLaunchQueue ..

theorem keeps_makePending (s : State) (g : GroupId) : Keeps s (s.makePending g) :=
  (keeps_modifyGroup (by intro _; rfl)).trans (keeps_appendLaunch ..)

theorem keeps_breakOne (s : State) (k : GroupId) : Keeps s (s.breakOne k) :=
  (keeps_modifyGroup (by intro _; rfl)).trans (keeps_offerPlain ..)

theorem keeps_breakSuccessors (s : State) (g : GroupId) : Keeps s (s.breakSuccessors g) := .foldl keeps_breakOne _ s

theorem keeps_firingNotice (s : State) (g : GroupId) : Keeps s (s.firingNotice g) := by
  unfold State.firingNotice
  split
  · exact keeps_makePending ..
  · exact keeps_modifyGroup (by intro _; rfl)
  · exact keeps_modifyGroup (by intro _; rfl)
  all_goals exact .refl _

theorem keeps_fireGroups (s : State) (gs : List GroupId) : Keeps s (s.fireGroups gs) := .foldl keeps_firingNotice gs s

theorem keeps_expiryNotice (s : State) (g : GroupId) : Keeps s (s.expiryNotice g) := by
  unfold State.expiryNotice
  split
  · split
    · exact (keeps_modifyGroup (by intro _; rfl)).trans (keeps_makePending ..)
    · exact ((keeps_offerPlain ..).trans (keeps_emptyGroup ..)).trans (keeps_breakSuccessors ..)
  · exact .refl _

/-! ## The staging store and the memory port -/

theorem keeps_freeHead (s : State) (g : GroupId) : Keeps s (s.freeHead g) := by
  unfold State.freeHead
  split
  · exact .refl _
  · exact (keeps_setFree ..).trans (keeps_modifyGroup (by intro _; rfl))

theorem keeps_appendEntry (s : State) (g : GroupId) (address data : Word) (mask : Mask) :
    Keeps s (s.appendEntry g address data mask).1 := by
  unfold State.appendEntry
  split
  · dsimp only
    exact (keeps_setFree ..).trans (keeps_modifyGroup (by intro _; rfl))
  · exact .refl _

theorem keeps_addRequest (s : State) (g : GroupId) (address data : Word) (mask : Mask) :
    Keeps s (s.addRequest g address data mask).1 := by
  unfold State.addRequest
  split
  · split
    · exact keeps_appendEntry ..
    · dsimp only
      exact keeps_modifyGroup (by intro _; rfl)
  · exact keeps_appendEntry ..

theorem keeps_issuePass (s : State) (t : TagId) : Keeps s (s.issuePass t) := by
  unfold State.issuePass
  split
  · exact .refl _
  · exact keeps_setPort rfl

theorem keeps_issueRelease (s : State) (t : TagId) : Keeps s (s.issueRelease t) := by
  unfold State.issueRelease
  split
  · exact .refl _
  · exact (keeps_setPort (by rfl)).trans (keeps_setEngine ..)

theorem keeps_grantOne (s : State) : Keeps s s.grantOne := by
  unfold State.grantOne
  split
  · exact keeps_issuePass ..
  · exact keeps_issueRelease ..
  · exact .refl _

theorem keeps_grantAll (s : State) : Keeps s s.grantAll :=
  (((keeps_grantOne _).trans (keeps_grantOne _)).trans (keeps_grantOne _)).trans (keeps_grantOne _)

theorem keeps_handOver (s : State) (r : PassRequest) : Keeps s (s.handOver r) :=
  (keeps_setPort (by rfl)).trans (keeps_grantOne _)

/-! ## The capture unit -/

theorem keeps_noteOverflow (s : State) (g : GroupId) : Keeps s (s.noteOverflow g) := by
  unfold State.noteOverflow
  split
  · exact keeps_modifyGroup (by intro _; rfl)
  · exact (keeps_modifyGroup (by intro _; rfl)).trans (keeps_offerPlain ..)

theorem keeps_checkCollision (s : State) (g : GroupId) (address : Word) : Keeps s (s.checkCollision g address) := by
  unfold State.checkCollision
  split
  · exact keeps_modifyGroup (by intro _; rfl)
  · exact .refl _

theorem keeps_captureBeat (s : State) (id k : Nat) (address : Word) (b : WriteBeat) (g : GroupId) :
    Keeps s (s.captureBeat id k address b g).1 := by
  have h := keeps_addRequest s g address b.data b.mask
  unfold State.captureBeat
  split
  · next e => rw [e] at h; exact h
  · next e => rw [e] at h; exact h
  · next e =>
    rw [e] at h
    split
    · exact h.trans (keeps_noteOverflow ..)
    · exact (h.trans (keeps_noteOverflow ..)).trans (keeps_handOver ..)

theorem keeps_missBeat (s : State) (id k : Nat) (address : Word) (b : WriteBeat) (w : Window) :
    Keeps s (s.missBeat id k address b w).1 := by
  unfold State.missBeat
  split
  · exact .refl _
  · exact (keeps_checkCollision ..).trans (keeps_handOver ..)

theorem keeps_decideWrite (s : State) (id : Nat) (t : Transaction) (k : Nat) (b : WriteBeat) :
    Keeps s (s.decideWrite id t k b).1 := by
  unfold State.decideWrite
  split
  · exact .refl _
  · split
    · exact keeps_handOver ..
    · split
      · exact keeps_captureBeat ..
      · exact keeps_missBeat ..

theorem keeps_decideRead (s : State) (id : Nat) (t : Transaction) (k : Nat) : Keeps s (s.decideRead id t k).1 := by
  unfold State.decideRead
  split
  · exact keeps_handOver ..
  · split
    · exact keeps_handOver ..
    · split
      · exact .refl _
      · exact keeps_handOver ..

theorem keeps_modifyIngress (s : State) (id : Nat) (f : Ingress → Ingress) : Keeps s (s.modifyIngress id f) :=
  keeps_setIngress ..

/-- What happens between two beats keeps. -/
abbrev GapKeeps (gap : State → State) : Prop := ∀ s, Keeps s (gap s)

theorem keeps_beforeBeat {gap : State → State} (hg : GapKeeps gap) (s : State) (k : Nat) : Keeps s (s.beforeBeat gap k) := by
  unfold State.beforeBeat
  split
  · exact .refl _
  · exact hg s

theorem keeps_decideReads {gap : State → State} (hg : GapKeeps gap) (s : State) (id : Nat) (t : Transaction) (k n : Nat) :
    Keeps s (s.decideReads gap id t k n) := by
  induction n generalizing s k with
  | zero => exact .refl _
  | succ n ih => exact (((keeps_beforeBeat hg s k).trans (keeps_decideRead ..)).trans (keeps_modifyIngress ..)).trans (ih _ _)

theorem keeps_decideWrites {gap : State → State} (hg : GapKeeps gap) (s : State) (id : Nat) (t : Transaction) (k : Nat)
    (bs : List WriteBeat) : Keeps s (s.decideWrites gap id t k bs) := by
  induction bs generalizing s k with
  | nil => exact .refl _
  | cons b bs ih =>
    exact (((keeps_beforeBeat hg s k).trans (keeps_decideWrite ..)).trans (keeps_modifyIngress ..)).trans (ih _ _)

theorem keeps_decideBeats {gap : State → State} (hg : GapKeeps gap) (s : State) (id : Nat) (t : Transaction) :
    Keeps s (s.decideBeats gap id t) := by
  unfold State.decideBeats
  split
  · exact keeps_decideReads hg ..
  · exact keeps_decideWrites hg ..

theorem keeps_judge {gap : State → State} (hg : GapKeeps gap) (s : State) : Keeps s (s.judge gap) := by
  rcases judge_cases s gap with ⟨-, h⟩ | ⟨u, -, -, ⟨-, h⟩ | ⟨g, -, -, h⟩ | ⟨-, -, h⟩⟩ <;> rw [h]
  · exact .refl _
  · exact keeps_modifyIngress ..
  · exact keeps_setFence ..
  · exact (keeps_decideBeats hg ..).trans (keeps_modifyIngress ..)

theorem keeps_judgeTimes (s : State) (n : Nat) : Keeps s (s.judgeTimes n) := by
  induction n generalizing s with
  | zero => exact .refl _
  | succ n ih => exact (keeps_judge .refl s).trans (ih _)

theorem keeps_endPass (s : State) (r : PassRequest) (answer : Answer) (data : Word) : Keeps s (s.endPass r answer data) :=
  (keeps_modifyIngress ..).trans (keeps_setPort (by rfl))

theorem keeps_respond (s : State) : Keeps s s.respond := by
  unfold State.respond
  split
  · exact .refl _
  · split
    · exact ⟨fun _ => rfl, rfl, rfl, rfl, rfl, rfl, rfl, rfl, rfl, rfl, rfl, rfl, List.prefix_refl _⟩
    · exact .refl _

theorem keeps_acceptTransaction (s : State) (t : Transaction) : Keeps s (s.acceptTransaction t) := by
  unfold State.acceptTransaction
  split
  · exact ⟨fun _ => rfl, rfl, rfl, rfl, rfl, rfl, rfl, rfl, rfl, rfl, rfl, rfl, List.prefix_refl _⟩
  · exact .refl _

/-! ## The release engine -/

theorem keeps_settleCompleted (s : State) (g : GroupId) : Keeps s (s.settleCompleted g) := by
  unfold State.settleCompleted
  split
  · exact keeps_modifyGroup (by intro _; rfl)
  · exact (keeps_modifyGroup (by intro _; rfl)).trans (keeps_emptyGroup ..)

theorem keeps_offerReleased (s : State) (g : GroupId) : Keeps s (s.offerReleased g) :=
  (keeps_offer ..).trans (keeps_setReported ..)

theorem keeps_completeGroup (s : State) (g : GroupId) (written failed : Nat) : Keeps s (s.completeGroup g written failed) :=
  (((keeps_modifyGroup (by intro _; rfl)).trans (keeps_offerReleased _ g)).trans
    (keeps_settleCompleted ..)).trans (keeps_fireGroups ..)

theorem keeps_faultGroup (s : State) (g : GroupId) (written failed : Nat) : Keeps s (s.faultGroup g written failed) :=
  (((keeps_modifyGroup (by intro _; rfl)).trans (keeps_offer ..)).trans (keeps_modifyGroup (by intro _; rfl))).trans
    (keeps_breakSuccessors ..)

theorem keeps_discardGroup (s : State) (g : GroupId) (written failed : Nat) : Keeps s (s.discardGroup g written failed) :=
  (((keeps_modifyGroup (by intro _; rfl)).trans (keeps_offer ..)).trans (keeps_emptyGroup ..)).trans (keeps_breakSuccessors ..)

theorem keeps_closeRelease (s : State) (g : GroupId) (o : ReleaseOutcome) : Keeps s (s.closeRelease g o) := by
  unfold State.closeRelease
  split
  · exact keeps_completeGroup ..
  · exact keeps_faultGroup ..
  · exact .refl _
  · exact keeps_discardGroup ..
  · exact keeps_discardGroup ..

theorem keeps_liftFence (s : State) (g : GroupId) : Keeps s (s.liftFence g) := by
  unfold State.liftFence
  split
  · exact keeps_setFence ..
  · exact .refl _

theorem keeps_finishRelease (s : State) (o : ReleaseOutcome) : Keeps s (s.finishRelease o) := by
  unfold State.finishRelease
  split
  · exact keeps_setEngine ..
  · exact ((keeps_closeRelease ..).trans (keeps_setEngine ..)).trans (keeps_liftFence ..)

theorem keeps_walkOn {finish : State → State} (h : ∀ s, Keeps s (finish s)) (s : State) : Keeps s (s.walkOn finish) := by
  unfold State.walkOn
  split
  · exact keeps_setEngine ..
  · exact h s

theorem keeps_endSettling {finish : State → State} (h : ∀ s, Keeps s (finish s)) (s : State) :
    Keeps s (s.endSettling finish) := (keeps_setEngine ..).trans (keeps_walkOn h _)

theorem keeps_takeGroup (s : State) (g : GroupId) (rest : List GroupId) : Keeps s (s.takeGroup g rest) :=
  ((keeps_setLaunchQueue ..).trans (keeps_setEngine ..)).trans (keeps_modifyGroup (by intro _; rfl))

theorem keeps_takeHead (s : State) : Keeps s s.takeHead := by
  unfold State.takeHead
  split
  · next g rest _ _ =>
    simp only
    split
    · exact (keeps_takeGroup s g rest).trans (keeps_endSettling (fun s => keeps_finishRelease s _) _)
    · exact keeps_takeGroup ..
  · exact .refl _

theorem keeps_judgeBeforeTaking (s : State) : Keeps s s.judgeBeforeTaking := by
  unfold State.judgeBeforeTaking
  split
  · exact (keeps_useFree s).trans (keeps_judgeTimes ..)
  · exact .refl _

theorem keeps_endRelease (s : State) (o : ReleaseOutcome) : Keeps s (s.endRelease o) :=
  ((keeps_finishRelease ..).trans (keeps_judgeBeforeTaking _)).trans (keeps_takeHead _)

theorem keeps_takeNext (s : State) : Keeps s s.takeNext := by
  unfold State.takeNext
  split
  · exact (keeps_takeHead _).trans (keeps_grantAll _)
  · exact .refl _

theorem keeps_takeIfAppended (s : State) (n : Nat) : Keeps s (s.takeIfAppended n) := by
  unfold State.takeIfAppended
  split
  · exact keeps_takeNext _
  · exact .refl _

theorem keeps_passEntry (s : State) (g : GroupId) : Keeps s (s.passEntry g) := by
  unfold State.passEntry
  split
  · exact keeps_freeHead ..
  · exact keeps_setEngine ..
  · exact .refl _

theorem keeps_countWrite (s : State) (answer : Answer) : Keeps s (s.countWrite answer) := by
  unfold State.countWrite
  split <;> exact keeps_setEngine ..

theorem keeps_writeEndedDraining (s : State) (g : GroupId) (answer : Answer) :
    Keeps s (s.writeEndedDraining g answer) := by
  unfold State.writeEndedDraining
  split
  · exact ((keeps_setEngine ..).trans (keeps_setEngine ..)).trans (keeps_endRelease ..)
  · exact (((keeps_countWrite ..).trans (keeps_passEntry ..)).trans (keeps_setEngine ..)).trans
      (keeps_walkOn (fun s => keeps_endRelease s _) _)

theorem keeps_freeStopped (s : State) (g : GroupId) (answer : Answer) : Keeps s (s.freeStopped g answer) := by
  unfold State.freeStopped
  split
  · exact keeps_freeHead ..
  · exact keeps_freeHead ..
  · exact .refl _

theorem keeps_writeEndedStopping (s : State) (g : GroupId) (answer : Answer) :
    Keeps s (s.writeEndedStopping g answer) :=
  (((keeps_countWrite ..).trans (keeps_freeStopped ..)).trans (keeps_setEngine ..)).trans (keeps_endRelease ..)

theorem keeps_writeEnded (s : State) (answer : Answer) : Keeps s (s.writeEnded answer) := by
  unfold State.writeEnded
  split
  · exact keeps_writeEndedDraining ..
  · exact keeps_writeEndedStopping ..
  · exact .refl _

theorem keeps_settleOn (s : State) : Keeps s s.settleOn := by
  unfold State.settleOn
  split
  · exact keeps_endSettling (fun s => keeps_endRelease s _) _
  · exact .refl _

theorem keeps_stopAtOnce (s : State) : Keeps s s.stopAtOnce :=
  ((keeps_setEngine ..).trans (keeps_endRelease ..)).trans (keeps_grantAll _)

theorem keeps_stopByDiscard (s : State) : Keeps s s.stopByDiscard := by
  unfold State.stopByDiscard
  split
  · exact keeps_stopAtOnce _
  · exact keeps_setEngine ..
  · exact keeps_stopAtOnce _
  · exact keeps_stopAtOnce _
  · exact .refl _
  · exact .refl _

/-! ## The events of the memory port -/

theorem keeps_handBack (s : State) (request : PortRequest) (answer : Answer) (data : Word) :
    Keeps s (s.handBack request answer data) := by
  unfold State.handBack
  split
  · exact (keeps_endPass ..).trans (keeps_settleOn _)
  · exact keeps_writeEnded ..

theorem keeps_takeResponse (s : State) (t : TagId) (answer : Answer) (data : Word) :
    Keeps s (s.takeResponse t answer data) := by
  unfold State.takeResponse
  split
  · exact .refl _
  · exact (keeps_setTag ..).trans (keeps_grantAll _)
  · exact ((keeps_handBack ..).trans (keeps_setTag ..)).trans (keeps_grantAll _)

theorem keeps_noteStuck (s : State) : Keeps s s.noteStuck := by
  unfold State.noteStuck
  split
  · exact keeps_offerPlain ..
  · exact .refl _

theorem keeps_timeOut (s : State) (t : TagId) : Keeps s (s.timeOut t) := by
  unfold State.timeOut
  split
  · exact .refl _
  · exact .refl _
  · exact (((keeps_setTag ..).trans (keeps_noteStuck _)).trans (keeps_handBack ..)).trans (keeps_grantAll _)

theorem keeps_takeBetween (s : State) (event : PortEvent) : Keeps s (s.takeBetween event) := by
  rcases takeBetween_cases s event with h | ⟨t, answer, data, -, -, h⟩ | ⟨t, -, -, h⟩ <;> rw [h]
  · exact .refl _
  · exact keeps_takeResponse ..
  · exact keeps_timeOut ..

theorem keeps_betweenBeats (s : State) : Keeps s s.betweenBeats := by
  unfold State.betweenBeats
  split
  · exact .refl _
  · exact (keeps_useFree s).trans (.foldl keeps_takeBetween _ _)

/-! ## Marks, edges and the clock -/

theorem keeps_lowerOne (m : Mark) (fires : GroupId → Bool) (s : State) (g : GroupId) :
    Keeps s (State.lowerOne m fires s g) := by
  unfold State.lowerOne
  split
  · exact keeps_modifyGroup fun r => by unfold GroupRecord.lowerDeadline; split <;> rfl
  · exact .refl _

theorem keeps_markNotice (fires : GroupId → Bool) (s : State) (g : GroupId) :
    Keeps s (State.markNotice fires s g) := by
  unfold State.markNotice
  split
  · exact keeps_firingNotice ..
  · exact keeps_expiryNotice ..

theorem keeps_takeMark (s : State) (m : Mark) : Keeps s (s.takeMark m) :=
  ((Keeps.foldl (keeps_lowerOne m _) allGroups s).trans (Keeps.foldl (keeps_markNotice _) allGroups _)).trans
    (keeps_takeIfAppended ..)

theorem keeps_handMark (s : State) (kind : MarkKind) : Keeps s (s.handMark kind) := keeps_takeMark ..

theorem keeps_generatedFrame (s : State) : Keeps s s.generatedFrame := by
  unfold State.generatedFrame
  split
  · exact ((keeps_setTimebase (by rfl) (by rfl) (by rfl) (by rfl)).trans (keeps_offerPlain ..)).trans (keeps_handMark ..)
  · exact (keeps_setTimebase (by rfl) (by rfl) (by rfl) (by rfl)).trans (keeps_handMark ..)

theorem keeps_lineOrNothing (s : State) : Keeps s s.lineOrNothing := by
  unfold State.lineOrNothing
  split
  · exact keeps_setTimebase rfl rfl rfl rfl
  · exact (keeps_setTimebase (by rfl) (by rfl) (by rfl) (by rfl)).trans (keeps_handMark ..)

theorem keeps_expireLine (s : State) : Keeps s s.expireLine := by
  unfold State.expireLine
  split
  · split
    · exact keeps_generatedFrame _
    · exact keeps_lineOrNothing _
  · exact keeps_lineOrNothing _

theorem keeps_takeFsync (s : State) : Keeps s s.takeFsync := by
  unfold State.takeFsync
  split
  · exact .refl _
  · exact .refl _
  · exact (keeps_setTimebase (by rfl) (by rfl) (by rfl) (by rfl)).trans (keeps_handMark ..)
  · exact (keeps_setTimebase (by rfl) (by rfl) (by rfl) (by rfl)).trans (keeps_handMark ..)
  · exact ((keeps_setTimebase (by rfl) (by rfl) (by rfl) (by rfl)).trans (keeps_offerPlain ..)).trans (keeps_handMark ..)

theorem keeps_takeTrig (s : State) : Keeps s s.takeTrig := (keeps_fireGroups ..).trans (keeps_takeIfAppended ..)

theorem keeps_sampleEdge (s : State) (missed : Bool) (low high : Nat) {note : State → Bool → State} {edge : State → State}
    (hn : ∀ s b, Keeps s (note s b)) (h : ∀ s, Keeps s (edge s)) : Keeps s (s.sampleEdge missed low high note edge) := by
  unfold State.sampleEdge
  split
  · exact (hn ..).trans (h _)
  · split
    · exact ((keeps_useFree s).trans (hn ..)).trans (h _)
    · exact (keeps_useFree s).trans (hn ..)

theorem keeps_whenRunning (s : State) {event : State → State} (h : ∀ s, Keeps s (event s)) :
    Keeps s (s.whenRunning event) := by
  unfold State.whenRunning
  split
  · exact h s
  · exact .refl _

theorem keeps_timeOutIfDue (s : State) (t : TagId) : Keeps s (s.timeOutIfDue t) := by
  unfold State.timeOutIfDue
  split
  · exact keeps_timeOut ..
  · exact .refl _

theorem keeps_advanceTimers (s : State) : Keeps s s.advanceTimers := keeps_setPort rfl

theorem keeps_tbclkPeriod (s : State) : Keeps s s.tbclkPeriod := by
  unfold State.tbclkPeriod
  simp only
  split
  · exact (keeps_setTimebase (by rfl) (by rfl) (by rfl) (by rfl)).trans (keeps_expireLine _)
  · exact keeps_setTimebase rfl rfl rfl rfl

theorem keeps_tbclkMayAdvance (s : State) : Keeps s s.tbclkMayAdvance := by
  unfold State.tbclkMayAdvance
  split
  · exact (keeps_useFree s).trans (keeps_tbclkPeriod _)
  · exact keeps_useFree s

theorem keeps_clockPeriod (s : State) : Keeps s s.clockPeriod :=
  (((keeps_takeNext s).trans (keeps_advanceTimers _)).trans (Keeps.foldl keeps_timeOutIfDue _ _)).trans
    (keeps_tbclkMayAdvance _)

theorem keeps_idle (s : State) : Keeps s s.idle :=
  ((keeps_useFree s).trans (keeps_setClk ..)).trans (keeps_whenRunning _ keeps_clockPeriod)

/-! ## The group commands -/

theorem keeps_armGroup (s : State) (g : GroupId) (c : LaunchCondition) : Keeps s (s.armGroup g c) := by
  unfold State.armGroup
  split
  · exact ((keeps_modifyGroup (by intro _; rfl)).trans (keeps_makePending ..)).trans (keeps_takeIfAppended ..)
  · exact keeps_modifyGroup (by intro _; rfl)

theorem keeps_discard (s : State) (g : GroupId) : Keeps s (s.discard g) := by
  unfold State.discard
  split
  · exact .refl _
  · exact keeps_emptyGroup ..
  · exact keeps_emptyGroup ..
  · exact (keeps_emptyGroup ..).trans (keeps_breakSuccessors ..)
  · exact ((keeps_emptyGroup ..).trans (keeps_removeLaunch ..)).trans (keeps_breakSuccessors ..)
  · split
    · exact keeps_stopByDiscard _
    · exact .refl _
  · exact keeps_emptyGroup ..

end Sys2Proof.Machine
end

