-- ==== Sys2Proof/Laws/Link.lean ====
section
/-!
SUPPORT. When events are taken (R163, R190), what the end of a frame can do (R163 to R168): one lemma for each way it goes,
and what the index check answers.
-/
namespace Sys2Proof.Machine

open Safety

/-! ## Whether events are taken -/

/-- R163, R190: out of reset and with CLK running the part takes events. -/
theorem State.takesEvents_iff {s : State} : s.takesEvents = true ↔ TakesEvents s := by
  simp [State.takesEvents]

/-- R163, R190: a part that takes events takes the event. -/
theorem State.whenRunning_taken {s : State} {event : State → State} (h : TakesEvents s) : s.whenRunning event = event s := by
  simp [State.whenRunning, State.takesEvents_iff.mpr h]

/-- R163, R190: in reset, and while CLK does not run, nothing happens. -/
theorem State.whenRunning_ignored {s : State} {event : State → State} (h : ¬ TakesEvents s) : s.whenRunning event = s := by
  rw [← State.takesEvents_iff] at h
  simp [State.whenRunning, h]

/-! ## The frame receiver (R162, R168) -/

theorem shiftOut_succ (b : List Byte) (n : Nat) :
    shiftOut b (n + 1) = shiftOut b n ++ [(b.getD (n / 8) 0).getLsbD (7 - n % 8)] := by
  simp [shiftOut, List.range_succ]

/-- R162: the eight bits of a byte complete that byte. -/
theorem byteOfBits_bitsOfByte (b : Byte) : byteOfBits (bitsOfByte b) = b := by revert b; decide +kernel

/-- R162: rising edges that complete no byte. -/
theorem sckRises_partial (bits : List Bool) {l : ControlLink} (h : l.selected = true)
    (hl : l.partialBits.length + bits.length < 8) (ho : l.sdo = shiftOut l.result l.bitCount) :
    bits.foldl ControlLink.sckRise l = { l with
      bitCount := l.bitCount + bits.length, partialBits := l.partialBits ++ bits
      sdo := shiftOut l.result (l.bitCount + bits.length) } := by
  induction bits generalizing l with
  | nil => simp [← ho]
  | cons b bits ih =>
    have hb : l.sckRise b = { l with
        bitCount := l.bitCount + 1, partialBits := l.partialBits ++ [b], sdo := shiftOut l.result (l.bitCount + 1) } := by
      simp only [List.length_cons] at hl
      unfold ControlLink.sckRise
      rw [if_neg (by simp [h]), if_neg (by simp only [List.length_append, List.length_singleton]; omega), shiftOut_succ, ho]
      rfl
    rw [List.foldl_cons, hb, ih (l := { l with bitCount := l.bitCount + 1, partialBits := l.partialBits ++ [b]
                                               sdo := shiftOut l.result (l.bitCount + 1) }) h
      (by simp only [List.length_append, List.length_cons, List.length_nil] at hl ⊢; omega) rfl]
    simp [Nat.add_assoc, Nat.add_comm 1]

/-- R162: the eight rising edges of one byte. -/
theorem sckRises_byte (b : Byte) {l : ControlLink} (h : l.selected = true) (hp : l.partialBits = [])
    (ho : l.sdo = shiftOut l.result l.bitCount) :
    (bitsOfByte b).foldl ControlLink.sckRise l = { l with
      bitCount := l.bitCount + 8, received := keepByte l.received b, partialBits := []
      sdo := shiftOut l.result (l.bitCount + 8) } := by
  have hb : bitsOfByte b = (bitsOfByte b).take 7 ++ [b.getLsbD 0] := rfl
  have h7 : ((bitsOfByte b).take 7).length = 7 := rfl
  rw [hb, List.foldl_append, sckRises_partial _ h (by simp [hp, h7]) ho, List.foldl_cons, List.foldl_nil]
  unfold ControlLink.sckRise
  rw [if_neg (by simp [h]), if_pos (by simp [hp, h7])]
  simp only [hp, List.nil_append, h7]
  rw [← hb, byteOfBits_bitsOfByte, shiftOut_succ _ (l.bitCount + 7)]
  rfl

/-- R162: the rising edges of several bytes. -/
theorem sckRises_bytes (bytes : List Byte) {l : ControlLink} (h : l.selected = true) (hp : l.partialBits = [])
    (ho : l.sdo = shiftOut l.result l.bitCount) :
    (bytes.flatMap bitsOfByte).foldl ControlLink.sckRise l = { l with
      bitCount := l.bitCount + 8 * bytes.length, received := bytes.foldl keepByte l.received, partialBits := []
      sdo := shiftOut l.result (l.bitCount + 8 * bytes.length) } := by
  induction bytes generalizing l with
  | nil =>
    cases l
    simp_all
  | cons b bytes ih =>
    rw [List.flatMap_cons, List.foldl_append, sckRises_byte b h hp ho, ih (l := { l with
      bitCount := l.bitCount + 8, received := keepByte l.received b, partialBits := []
      sdo := shiftOut l.result (l.bitCount + 8) }) h rfl rfl]
    simp [Nat.mul_add, Nat.add_assoc, Nat.add_comm]

/-- R162: the receiver keeps the first bytes of the frame, up to the number its command needs. -/
theorem keepBytes_eq (code : Byte) (rest : List Byte) :
    (code :: rest).foldl keepByte [] = (code :: rest).take ((frameLength code).getD 1) := by
  have hn : 1 ≤ (frameLength code).getD 1 := by unfold frameLength; split <;> simp
  have step (kept more : List Byte) (hk : kept.length + 1 ≤ (frameLength code).getD 1) :
      more.foldl keepByte (code :: kept) = (code :: (kept ++ more)).take ((frameLength code).getD 1) := by
    induction more generalizing kept with
    | nil => rw [List.append_nil, List.foldl_nil, List.take_of_length_le (by simpa using hk)]
    | cons b more ih =>
      rw [List.foldl_cons]
      by_cases hlt : kept.length + 1 < (frameLength code).getD 1
      · have hk' : keepByte (code :: kept) b = code :: (kept ++ [b]) := by simp [keepByte, hlt]
        rw [hk', ih (kept ++ [b]) (by simp; omega)]
        simp
      · have he : (frameLength code).getD 1 = (code :: kept).length := by simp; omega
        have hk' : keepByte (code :: kept) b = code :: kept := by simp [keepByte, hlt]
        rw [hk', ih kept hk, he, ← List.cons_append, ← List.cons_append, List.take_left, List.take_left]
  exact step [] rest hn

/-- R162, R164, R168: the control link after a frame of complete bytes and fewer than eight bits after them, whatever those
bits are. -/
theorem clockFrame_eq (bytes : List Byte) (bits : List Bool) {l : ControlLink} (h : l.selected = false)
    (hb : bits.length < 8) :
    l.clockFrame (bytes.flatMap bitsOfByte ++ bits) = { l with
      selected := false, bitCount := 8 * bytes.length + bits.length, received := bytes.foldl keepByte []
      partialBits := [], sdo := shiftOut l.result (8 * bytes.length + bits.length), sdoDriven := false } := by
  have hs : l.select = { l with
      selected := true, bitCount := 0, received := [], partialBits := [], sdo := [], sdoDriven := true } := by
    simp [ControlLink.select, h]
  unfold ControlLink.clockFrame
  rw [hs, List.foldl_append, sckRises_bytes _ rfl rfl rfl, sckRises_partial _ rfl (by simpa using hb) rfl]
  simp [ControlLink.deselect]

/-- R162, R164, R168: what the frame of a command leaves in the control link before the command is taken. -/
theorem receive_link {s : State} (h : s.link.selected = false) (code : Byte) (f : Frame) :
    (s.receive code f).link = linkAfter s code f s.link.result := by
  unfold State.receive State.clockFrame Frame.bits
  rw [State.setLink_link, clockFrame_eq _ _ h (by simp), keepBytes_eq]
  simp

/-- R162, R164, R168: what a frame with no complete byte leaves in the control link. -/
theorem clockFrame_short {l : ControlLink} (h : l.selected = false) (bits : Fin 8) :
    l.clockFrame (List.replicate bits.val false) = { l with
      selected := false, bitCount := bits.val, received := [], partialBits := []
      sdo := shiftOut l.result bits.val, sdoDriven := false } := by
  simpa using clockFrame_eq [] (List.replicate bits.val false) h (by simp)

/-! ## The end of a frame -/

/-- R163, R190: in reset, and while CLK does not run, the end of a frame does nothing. -/
theorem State.takeFrame_ignored {s : State} (h : ¬ TakesEvents s) (code : Byte) (f : Frame) (act : State → Reply) :
    s.takeFrame code f act = s := by
  rw [← State.takesEvents_iff] at h
  simp [State.takeFrame, h]

/-- R163: the rise of a CS_N that was low when the part left reset takes no command. -/
theorem State.takeFrame_held {s : State} (h : TakesEvents s) (hc : s.link.csHeldLow = true) (code : Byte) (f : Frame)
    (act : State → Reply) :
    s.takeFrame code f act = { s with link := { s.link with csHeldLow := false, sdoDriven := false } } := by
  simp [State.takeFrame, State.takesEvents_iff.mpr h, hc, State.endHeldFrame, State.setLink]

/-- R165: a frame too short for its command. -/
theorem State.takeFrame_short {s : State} (h : LinkReady s) {code : Byte} {f : Frame}
    (hl : f.length < (frameLength code).getD 1) (act : State → Reply) :
    s.takeFrame code f act = afterFrame s s code f [0x09] := by
  unfold State.takeFrame
  rw [if_neg (by simp [State.takesEvents_iff.mpr h.1]), if_neg (by simp [h.2.1]), if_pos hl, State.answer,
    receive_link h.2.2]
  rfl

/-- R166, R167: a frame long enough: the command acts, and its result replaces the result buffer. -/
theorem State.takeFrame_long {s : State} (h : LinkReady s) {code : Byte} {f : Frame}
    (hl : (frameLength code).getD 1 ≤ f.length) (act : State → Reply) :
    s.takeFrame code f act = (act (s.receive code f)).state.answer (act (s.receive code f)).result := by
  unfold State.takeFrame
  rw [if_neg (by simp [State.takesEvents_iff.mpr h.1]), if_neg (by simp [h.2.1]), if_neg (Nat.not_lt.mpr hl)]

/-- A command that leaves the link alone: the state it makes of the part, with the link as the frame leaves it. -/
theorem State.takeFrame_reply {s t : State} (h : LinkReady s) {code : Byte} {f : Frame}
    (hl : (frameLength code).getD 1 ≤ f.length) {act : State → Reply} {result : List Byte}
    (ha : act (s.receive code f) = ⟨t.setLink (s.receive code f).link, result⟩) :
    s.takeFrame code f act = afterFrame s t code f result := by
  rw [State.takeFrame_long h hl, ha, receive_link h.2.2]
  rfl

/-- A command that changes nothing. -/
theorem State.takeFrame_same {s : State} (h : LinkReady s) {code : Byte} {f : Frame}
    (hl : (frameLength code).getD 1 ≤ f.length) {act : State → Reply} {result : List Byte}
    (ha : act (s.receive code f) = ⟨s.receive code f, result⟩) :
    s.takeFrame code f act = afterFrame s s code f result :=
  State.takeFrame_reply (t := s) h hl ha

/-- Everything the end of a frame can do: nothing; a change of the link alone; or what the command does, with a change of the
link. -/
theorem State.takeFrame_cases (s : State) (code : Byte) (f : Frame) (act : State → Reply) :
    s.takeFrame code f act = s ∨ (∃ l, s.takeFrame code f act = s.setLink l) ∨
      ∃ l, s.takeFrame code f act = (act (s.receive code f)).state.setLink l := by
  unfold State.takeFrame
  split
  · exact .inl rfl
  · split
    · exact .inr (.inl ⟨_, rfl⟩)
    · split
      · exact .inr (.inl ⟨_, rfl⟩)
      · exact .inr (.inr ⟨_, rfl⟩)

/-- Everything the index check can do: go on with one of the things named, or refuse. -/
theorem withIndex_cases (n : Nat) (f : Frame) (s : State) (act : Fin n → Reply) :
    withIndex n f s act = refuse .badIndex s ∨ ∃ i, withIndex n f s act = act i := by
  unfold withIndex
  split
  · exact .inr ⟨_, rfl⟩
  · exact .inl rfl

/-! ## What a frame leaves of the part when its command is taken -/

theorem State.receive_eq (s : State) (code : Byte) (f : Frame) :
    s.receive code f = s.setLink (s.receive code f).link := rfl

@[simp] theorem State.receive_group (s : State) (code : Byte) (f : Frame) (g : GroupId) :
    (s.receive code f).group g = s.group g := rfl
@[simp] theorem State.receive_window (s : State) (code : Byte) (f : Frame) (w : Fin 16) :
    (s.receive code f).window w = s.window w := rfl
@[simp] theorem State.receive_point (s : State) (code : Byte) (f : Frame) (p : Fin 8) :
    (s.receive code f).point p = s.point p := rfl
@[simp] theorem State.receive_engine (s : State) (code : Byte) (f : Frame) : (s.receive code f).engine = s.engine := rfl
@[simp] theorem State.receive_port (s : State) (code : Byte) (f : Frame) : (s.receive code f).port = s.port := rfl
@[simp] theorem State.receive_timebase (s : State) (code : Byte) (f : Frame) :
    (s.receive code f).timebase = s.timebase := rfl
@[simp] theorem State.receive_launchQueue (s : State) (code : Byte) (f : Frame) :
    (s.receive code f).launchQueue = s.launchQueue := rfl
@[simp] theorem State.receive_completions (s : State) (code : Byte) (f : Frame) :
    (s.receive code f).completions = s.completions := rfl
@[simp] theorem State.receive_irq (s : State) (code : Byte) (f : Frame) : (s.receive code f).irq = s.irq := rfl
@[simp] theorem State.receive_free (s : State) (code : Byte) (f : Frame) : (s.receive code f).free = s.free := rfl

/-! ## The index check (R166) -/

/-- The index names one of `n` things: the command goes on with it. -/
theorem withIndex_of_eq {n : Nat} {f : Frame} {s : State} {act : Fin n → Reply} {i : Fin n}
    (h : (f.byte 1).toNat = i.val) : withIndex n f s act = act i := by
  have hi : f.index? n = some i := by
    simp [Frame.index?, h]
  simp [withIndex, hi]

/-- The index names none of them: BAD_INDEX. -/
theorem withIndex_of_ge {n : Nat} {f : Frame} {s : State} {act : Fin n → Reply} (h : n ≤ (f.byte 1).toNat) :
    withIndex n f s act = refuse .badIndex s := by
  have hi : f.index? n = none := by
    simp [Frame.index?, Nat.not_lt.mpr h]
  simp [withIndex, hi]

/-! ## The bits shifted out (R168) -/

@[simp] theorem shiftOut_length (b : List Byte) (n : Nat) : (shiftOut b n).length = n := by simp [shiftOut]

theorem shiftOut_getElem? (b : List Byte) {n i : Nat} (h : i < n) :
    (shiftOut b n)[i]? = some ((b.getD (i / 8) 0).getLsbD (7 - i % 8)) := by
  simp [shiftOut, h]

end Sys2Proof.Machine
end

