-- ==== Sys2Proof/Laws/LinkApart.lean ====
section
/-!
SUPPORT. The operations of the blocks neither read nor write the control link: each commutes with a change of it. So a command
taken by a frame does to the part what its operations do without the frame (R166).
-/
namespace Sys2Proof.Machine

variable (s : State) (l : ControlLink)

/-- An operation on the part that leaves the control link out. -/
abbrev LinkApart (op : State → State) : Prop := ∀ (s : State) (l : ControlLink), op (s.setLink l) = (op s).setLink l

theorem linkApart_comp {f h : State → State} (hf : LinkApart f) (hh : LinkApart h) : LinkApart fun s => h (f s) := by
  intro s l
  show h (f (s.setLink l)) = _
  rw [hf, hh]

theorem linkApart_foldl {α : Type} {f : State → α → State} (h : ∀ a, LinkApart fun s => f s a) (as : List α) :
    LinkApart fun s => as.foldl f s := by
  intro s l
  induction as generalizing s with
  | nil => rfl
  | cons a as ih =>
    show as.foldl f (f (s.setLink l) a) = (as.foldl f (f s a)).setLink l
    rw [show f (s.setLink l) a = (f s a).setLink l from h a s l]
    exact ih _

/-! ## The memory port -/

@[simp] theorem grantOne_setLink : (s.setLink l).grantOne = s.grantOne.setLink l := by
  have hw : (s.setLink l).winner = s.winner := rfl
  unfold State.grantOne
  rw [hw, State.setLink_port]
  split
  · unfold State.issuePass
    rw [State.setLink_port]
    split <;> rfl
  · unfold State.issueRelease
    rw [State.setLink_engine]
    split <;> rfl
  · rfl

@[simp] theorem grantAll_setLink : (s.setLink l).grantAll = s.grantAll.setLink l := by simp [State.grantAll]

@[simp] theorem handOver_setLink (r : PassRequest) : (s.setLink l).handOver r = (s.handOver r).setLink l :=
  grantOne_setLink (s.setPort { s.port with
    waiting := s.port.waiting ++ [r]
    settle := changeSettle r.mark (fun n => n + 1) s.port.settle }) l

/-! ## The capture unit -/

@[simp] theorem appendEntry_setLink (g : GroupId) (a d : Word) (m : Mask) :
    (s.setLink l).appendEntry g a d m = ((s.appendEntry g a d m).1.setLink l, (s.appendEntry g a d m).2) := by
  have hr : (s.setLink l).hasRoom g = s.hasRoom g := rfl
  unfold State.appendEntry
  rw [hr]
  split <;> rfl

@[simp] theorem addRequest_setLink (g : GroupId) (a d : Word) (m : Mask) :
    (s.setLink l).addRequest g a d m = ((s.addRequest g a d m).1.setLink l, (s.addRequest g a d m).2) := by
  have hl : (s.setLink l).lookup g a = s.lookup g a := rfl
  unfold State.addRequest
  rw [State.setLink_group, hl]
  split
  · split
    · exact appendEntry_setLink ..
    · rfl
  · exact appendEntry_setLink ..

@[simp] theorem noteOverflow_setLink (g : GroupId) : (s.setLink l).noteOverflow g = (s.noteOverflow g).setLink l := by
  unfold State.noteOverflow
  rw [State.setLink_group]
  split <;> rfl

theorem captureBeat_setLink (id k : Nat) (a : Word) (b : WriteBeat) (g : GroupId) :
    (s.setLink l).captureBeat id k a b g = ((s.captureBeat id k a b g).1.setLink l, (s.captureBeat id k a b g).2) := by
  unfold State.captureBeat
  rw [addRequest_setLink]
  rcases s.addRequest g a b.data b.mask with ⟨t, _ | _ | _⟩
  · rfl
  · rfl
  · simp only [State.setLink_group]
    split <;> simp

theorem missBeat_setLink (id k : Nat) (a : Word) (b : WriteBeat) (w : Window) :
    (s.setLink l).missBeat id k a b w = ((s.missBeat id k a b w).1.setLink l, (s.missBeat id k a b w).2) := by
  have hc (g : GroupId) : (s.setLink l).checkCollision g a = (s.checkCollision g a).setLink l := by
    have hl : (s.setLink l).lookup g a = s.lookup g a := rfl
    unfold State.checkCollision
    rw [State.setLink_group, hl]
    split <;> rfl
  unfold State.missBeat
  split
  · rfl
  · rw [hc, handOver_setLink]

theorem decideWrite_setLink (id : Nat) (t : Transaction) (k : Nat) (b : WriteBeat) :
    (s.setLink l).decideWrite id t k b = ((s.decideWrite id t k b).1.setLink l, (s.decideWrite id t k b).2) := by
  have hg (a : Word) : (s.setLink l).governing a = s.governing a := rfl
  unfold State.decideWrite
  rw [hg]
  split
  · rfl
  · split
    · rw [handOver_setLink]
    · rw [State.setLink_group]
      split
      · exact captureBeat_setLink ..
      · exact missBeat_setLink ..

theorem decideRead_setLink (id : Nat) (t : Transaction) (k : Nat) :
    (s.setLink l).decideRead id t k = ((s.decideRead id t k).1.setLink l, (s.decideRead id t k).2) := by
  have hg (a : Word) : (s.setLink l).governing a = s.governing a := rfl
  have hm (w : Window) (a : Word) : (s.setLink l).mergeEntries w a = s.mergeEntries w a := rfl
  unfold State.decideRead
  rw [hg]
  split
  · rw [handOver_setLink]
  · rw [hm]
    split
    · rw [handOver_setLink]
    · split
      · rfl
      · rw [handOver_setLink]

theorem dispatchBeat_setLink (id : Nat) (t : State) (result : BeatResult) :
    State.dispatchBeat id (t.setLink l, result) = (State.dispatchBeat id (t, result)).setLink l := rfl

theorem beforeBeat_setLink {gap : State → State} (hg : LinkApart gap) (k : Nat) :
    (s.setLink l).beforeBeat gap k = (s.beforeBeat gap k).setLink l := by
  unfold State.beforeBeat
  split
  · rfl
  · exact hg s l

theorem decideReads_setLink {gap : State → State} (hg : LinkApart gap) (id : Nat) (t : Transaction) (k n : Nat) :
    (s.setLink l).decideReads gap id t k n = (s.decideReads gap id t k n).setLink l := by
  induction n generalizing s k with
  | zero => rfl
  | succ n ih => simp only [State.decideReads, beforeBeat_setLink s l hg, decideRead_setLink, dispatchBeat_setLink, ih]

theorem decideWrites_setLink {gap : State → State} (hg : LinkApart gap) (id : Nat) (t : Transaction) (k : Nat)
    (bs : List WriteBeat) :
    (s.setLink l).decideWrites gap id t k bs = (s.decideWrites gap id t k bs).setLink l := by
  induction bs generalizing s k with
  | nil => rfl
  | cons b bs ih =>
    simp only [State.decideWrites, beforeBeat_setLink s l hg, decideWrite_setLink, dispatchBeat_setLink, ih]

theorem decideBeats_setLink {gap : State → State} (hg : LinkApart gap) (id : Nat) (t : Transaction) :
    (s.setLink l).decideBeats gap id t = (s.decideBeats gap id t).setLink l := by
  unfold State.decideBeats
  split
  · exact decideReads_setLink s l hg ..
  · exact decideWrites_setLink s l hg ..

theorem judge_setLink {gap : State → State} (hg : LinkApart gap) : (s.setLink l).judge gap = (s.judge gap).setLink l := by
  have hh : (s.setLink l).head? = s.head? := rfl
  have hf (t : Transaction) : (s.setLink l).fenceTest t = s.fenceTest t := rfl
  unfold State.judge
  rw [hh, State.setLink_fencedOn]
  split
  · unfold State.judgeHead
    split
    · rfl
    · rw [hf]
      split
      · rfl
      · rw [decideBeats_setLink s l hg]
        rfl
  · rfl

theorem judgeTimes_setLink (n : Nat) : (s.setLink l).judgeTimes n = (s.judgeTimes n).setLink l := by
  induction n generalizing s with
  | zero => rfl
  | succ n ih => simp only [State.judgeTimes, judge_setLink (gap := id) s l fun _ _ => rfl, ih]

/-! ## The group controller and the launch unit -/

@[simp] theorem breakSuccessors_setLink (g : GroupId) :
    (s.setLink l).breakSuccessors g = (s.breakSuccessors g).setLink l := by
  have hw (fuel : Nat) (k : GroupId) : (s.setLink l).waitsOn g fuel k = s.waitsOn g fuel k := by
    induction fuel generalizing k with
    | zero => rfl
    | succ n ih =>
      unfold State.waitsOn
      simp only [State.setLink_group, ih]
  have hb : (s.setLink l).brokenBy g = s.brokenBy g := by simp only [State.brokenBy, hw]
  unfold State.breakSuccessors
  rw [hb]
  exact linkApart_foldl (fun _ _ _ => rfl) _ s l

@[simp] theorem firingNotice_setLink (g : GroupId) : (s.setLink l).firingNotice g = (s.firingNotice g).setLink l := by
  unfold State.firingNotice
  rw [State.setLink_group]
  split <;> rfl

@[simp] theorem fireGroups_setLink (gs : List GroupId) : (s.setLink l).fireGroups gs = (s.fireGroups gs).setLink l :=
  linkApart_foldl (f := State.firingNotice) (fun g s l => firingNotice_setLink s l g) gs s l

/-! ## The release engine -/

@[simp] theorem completeGroup_setLink (g : GroupId) (w f : Nat) :
    (s.setLink l).completeGroup g w f = (s.completeGroup g w f).setLink l := by
  have hs (t : State) : (t.setLink l).settleCompleted g = (t.settleCompleted g).setLink l := by
    unfold State.settleCompleted
    rw [State.setLink_group]
    split <;> rfl
  have hf (t : State) : (t.setLink l).firedByCompletion g = t.firedByCompletion g := rfl
  have ho : ((s.setLink l).modifyGroup g (GroupRecord.endRelease w f)).offerReleased g =
      ((s.modifyGroup g (GroupRecord.endRelease w f)).offerReleased g).setLink l := rfl
  unfold State.completeGroup
  dsimp only
  rw [ho, hs, hf, fireGroups_setLink]

@[simp] theorem faultGroup_setLink (g : GroupId) (w f : Nat) :
    (s.setLink l).faultGroup g w f = (s.faultGroup g w f).setLink l :=
  breakSuccessors_setLink (((s.modifyGroup g (GroupRecord.endRelease w f)).offer .releaseFault (some g)
    (some ((s.modifyGroup g (GroupRecord.endRelease w f)).group g).report)
    ((s.modifyGroup g (GroupRecord.endRelease w f)).group g).recordFlags).modifyGroup g GroupRecord.toFaulted) l g

@[simp] theorem discardGroup_setLink (g : GroupId) (w f : Nat) :
    (s.setLink l).discardGroup g w f = (s.discardGroup g w f).setLink l :=
  breakSuccessors_setLink (((s.modifyGroup g (GroupRecord.endRelease w f)).offer .discarded (some g)
    (some ((s.modifyGroup g (GroupRecord.endRelease w f)).group g).report) {}).emptyGroup g) l g

@[simp] theorem finishRelease_setLink (o : ReleaseOutcome) :
    (s.setLink l).finishRelease o = (s.finishRelease o).setLink l := by
  have hc (g : GroupId) : (s.setLink l).closeRelease g o = (s.closeRelease g o).setLink l := by
    unfold State.closeRelease
    rw [State.setLink_engine]
    split
    · exact completeGroup_setLink ..
    · exact faultGroup_setLink ..
    · rfl
    · exact discardGroup_setLink ..
    · exact discardGroup_setLink ..
  have hl (t : State) (g : GroupId) : (t.setLink l).liftFence g = (t.liftFence g).setLink l := by
    unfold State.liftFence
    rw [State.setLink_fencedOn]
    split <;> rfl
  unfold State.finishRelease
  rw [State.setLink_engine]
  split
  · rfl
  · next g _ =>
    rw [hc, ← hl]
    rfl

theorem walkOn_setLink {finish : State → State} (hf : LinkApart finish) :
    (s.setLink l).walkOn finish = (s.walkOn finish).setLink l := by
  have hn : (s.setLink l).nextEntry = s.nextEntry := rfl
  unfold State.walkOn
  rw [hn]
  split
  · rfl
  · exact hf s l

theorem endSettling_setLink {finish : State → State} (hf : LinkApart finish) :
    (s.setLink l).endSettling finish = (s.endSettling finish).setLink l :=
  walkOn_setLink (s.setEngine { s.engine with state := .draining }) l hf

@[simp] theorem takeHead_setLink : (s.setLink l).takeHead = s.takeHead.setLink l := by
  unfold State.takeHead
  rw [State.setLink_engine, State.setLink_launchQueue]
  split
  · next g rest _ _ =>
    have ht : (s.setLink l).takeGroup g rest = (s.takeGroup g rest).setLink l := rfl
    dsimp only
    rw [ht, State.setLink_settleCount]
    split
    · exact endSettling_setLink _ l fun s l => finishRelease_setLink s l .complete
    · rfl
  · rfl

@[simp] theorem judgeBeforeTaking_setLink : (s.setLink l).judgeBeforeTaking = s.judgeBeforeTaking.setLink l := by
  have hh : (s.setLink l).head? = s.head? := rfl
  unfold State.judgeBeforeTaking
  rw [hh, State.setLink_launchQueue]
  split
  · exact judgeTimes_setLink s.useFree l _
  · rfl

@[simp] theorem endRelease_setLink (o : ReleaseOutcome) : (s.setLink l).endRelease o = (s.endRelease o).setLink l := by
  simp [State.endRelease]

@[simp] theorem takeNext_setLink : (s.setLink l).takeNext = s.takeNext.setLink l := by
  unfold State.takeNext
  rw [State.setLink_engine, State.setLink_launchQueue]
  split <;> simp

@[simp] theorem takeIfAppended_setLink (n : Nat) : (s.setLink l).takeIfAppended n = (s.takeIfAppended n).setLink l := by
  unfold State.takeIfAppended
  rw [State.setLink_launchQueue]
  split <;> simp

@[simp] theorem stopByDiscard_setLink : (s.setLink l).stopByDiscard = s.stopByDiscard.setLink l := by
  have hs : (s.setLink l).stopAtOnce = s.stopAtOnce.setLink l := by
    have he (e : Engine) : (s.setLink l).setEngine e = (s.setEngine e).setLink l := rfl
    unfold State.stopAtOnce
    rw [State.setLink_engine, he, endRelease_setLink, grantAll_setLink]
  unfold State.stopByDiscard
  rw [State.setLink_engine]
  split
  · exact hs
  · rfl
  · exact hs
  · exact hs
  · rfl
  · rfl

/-! ## The commands -/

@[simp] theorem armGroup_setLink (g : GroupId) (c : LaunchCondition) :
    (s.setLink l).armGroup g c = (s.armGroup g c).setLink l := by
  cases c
  case immediate =>
    have hm : ((s.setLink l).modifyGroup g (GroupRecord.arm .immediate)).makePending g =
        ((s.modifyGroup g (GroupRecord.arm .immediate)).makePending g).setLink l := rfl
    unfold State.armGroup
    dsimp only
    rw [hm, takeIfAppended_setLink, State.setLink_launchQueue]
  all_goals rfl

@[simp] theorem discard_setLink (g : GroupId) : (s.setLink l).discard g = (s.discard g).setLink l := by
  unfold State.discard
  rw [State.setLink_group]
  split
  · rfl
  · rfl
  · rfl
  · exact breakSuccessors_setLink (s.emptyGroup g) l g
  · exact breakSuccessors_setLink ((s.emptyGroup g).removeLaunch g) l g
  · rw [State.setLink_engine]
    split
    · exact stopByDiscard_setLink s l
    · rfl
  · rfl

end Sys2Proof.Machine
end

