-- ==== Sys2Proof/Laws/Operands.lean ====
section
/-!
SUPPORT. The forms of the control link: the bytes of a result in the manual's arithmetic, and that each code of a named value
reads back as the value (R182 to R189).
-/
namespace Sys2Proof.Machine

open Safety

/-! ## Bytes of a result -/

theorem countBytes_eq (n : Nat) : countBytes n = bigEndian16 n := by
  unfold countBytes halfBytes bigEndian16
  congr 1
  · apply BitVec.eq_of_toNat_eq
    simp only [BitVec.extractLsb', BitVec.toNat_ofNat, Nat.shiftRight_eq_div_pow]
    omega
  · congr 1
    apply BitVec.eq_of_toNat_eq
    simp [BitVec.extractLsb']

theorem halfBytes_eq (h : Half) : halfBytes h = bigEndian16 h.toNat := by
  rw [← countBytes_eq]
  simp [countBytes]

theorem wordBytes_eq (w : Word) : wordBytes w = bigEndian32 w.toNat := by
  unfold wordBytes bigEndian32
  refine congr_arg₂ _ ?_ (congr_arg₂ _ ?_ (congr_arg₂ _ ?_ (congr_arg₂ _ ?_ rfl)))
  all_goals (apply BitVec.eq_of_toNat_eq; simp [BitVec.extractLsb', Nat.shiftRight_eq_div_pow])

theorem flagBits_five (b0 b1 b2 b3 b4 : Bool) : flagBits b0 b1 b2 b3 b4 =
    BitVec.setWidth 8 (BitVec.ofBool b4 ++ BitVec.ofBool b3 ++ BitVec.ofBool b2 ++ BitVec.ofBool b1 ++ BitVec.ofBool b0) := by
  decide +revert

theorem flagBits_four (b0 b1 b2 b3 : Bool) : flagBits b0 b1 b2 b3 false =
    BitVec.setWidth 8 (BitVec.ofBool b3 ++ BitVec.ofBool b2 ++ BitVec.ofBool b1 ++ BitVec.ofBool b0) := by
  decide +revert

/-! ## Codes read back -/

@[simp] theorem stagingModeOf_code (m : StagingMode) : stagingModeOf m.code = some m := by cases m <;> rfl
@[simp] theorem overflowPolicyOf_code (p : OverflowPolicy) : overflowPolicyOf p.code = some p := by cases p <;> rfl
@[simp] theorem errorPolicyOf_code (p : ErrorPolicy) : errorPolicyOf p.code = some p := by cases p <;> rfl
@[simp] theorem deadlineActionOf_code (a : DeadlineAction) : deadlineActionOf a.code = some a := by cases a <;> rfl
@[simp] theorem missPolicyOf_code (p : MissPolicy) : missPolicyOf p.code = some p := by cases p <;> rfl
@[simp] theorem readPolicyOf_code (p : ReadPolicy) : readPolicyOf p.code = some p := by cases p <;> rfl
@[simp] theorem timebaseModeOf_code (m : TimebaseMode) : timebaseModeOf m.code = some m := by cases m <;> rfl
@[simp] theorem filterOf_filterCode (x : Option (Fin 16)) : filterOf (filterCode x) = some x := by decide +revert

/-- R185, R186: a byte above 0x01 names no value of a field of two values. -/
theorem named_values_above_one (b : Byte) (h : 1 < b.toNat) :
    stagingModeOf b = none ∧ overflowPolicyOf b = none ∧ errorPolicyOf b = none ∧ deadlineActionOf b = none ∧
      missPolicyOf b = none ∧ readPolicyOf b = none ∧ timebaseModeOf b = none := by
  unfold stagingModeOf overflowPolicyOf errorPolicyOf deadlineActionOf missPolicyOf readPolicyOf timebaseModeOf
  refine ⟨?_, ?_, ?_, ?_, ?_, ?_, ?_⟩ <;> (split <;> first | omega | rfl)

/-- R182: a flag byte reads as the flag, and no other byte reads as one. -/
theorem flag?_eq_some_iff (f : Frame) (k : Nat) (b : Bool) : f.flag? k = some b ↔ f.byte k = yesNo b := by
  unfold Frame.flag?
  generalize f.byte k = x
  decide +revert

theorem flag?_eq_none_iff (f : Frame) (k : Nat) : f.flag? k = none ↔ 1 < (f.byte k).toNat := by
  unfold Frame.flag?
  generalize f.byte k = x
  decide +revert

theorem number?_of_eq {f : Frame} {k n : Nat} {i : Fin n} (h : (f.byte k).toNat = i.val) : f.number? k n = some i := by
  simp [Frame.number?, h]

theorem number?_of_ge {f : Frame} {k n : Nat} (h : n ≤ (f.byte k).toNat) : f.number? k n = none := by
  simp [Frame.number?, Nat.not_lt.mpr h]

end Sys2Proof.Machine
end

