-- ==== Sys2Proof/Laws/Port.lean ====
section
/-!
SUPPORT. What the operations of the memory port can do: which tag is free, which side wins, and everything a grant can do
(R96 to R99).
-/
namespace Sys2Proof.Machine

open Safety

variable (s : State)

theorem isFree_iff (x : TagState) : x.isFree = true ↔ x = .free := by cases x <;> simp [TagState.isFree]

theorem isAbandoned_iff (x : TagState) : x.isAbandoned = true ↔ x = .abandoned := by
  cases x <;> simp [TagState.isAbandoned]

/-- R98: the tag found is the lowest-numbered FREE one. -/
theorem freeTag?_eq_some_iff (p : MemoryPort) (t : TagId) : p.freeTag? = some t ↔ IsLowestFree p t := by
  unfold MemoryPort.freeTag? allTags IsLowestFree
  have hf (x : TagState) : x.isFree = decide (x = .free) := by cases x <;> simp [TagState.isFree]
  simp only [hf, Fin.forall_fin_succ]
  by_cases h0 : p.tags[(0 : TagId)] = .free <;> by_cases h1 : p.tags[(1 : TagId)] = .free <;>
    by_cases h2 : p.tags[(2 : TagId)] = .free <;> by_cases h3 : p.tags[(3 : TagId)] = .free <;>
    fin_cases t <;> simp_all

/-- R98: none is found exactly when no tag is FREE. -/
theorem freeTag?_eq_none_iff (p : MemoryPort) : p.freeTag? = none ↔ NoFreeTag p := by
  unfold MemoryPort.freeTag?
  rw [List.find?_eq_none]
  constructor
  · intro h t ht
    exact h t (by fin_cases t <;> simp [allTags]) ((isFree_iff _).mpr ht)
  · intro h t _ ht
    exact h t ((isFree_iff _).mp ht)

/-- R98: no side wins exactly when no request waits. -/
theorem winner_eq_none_iff : s.winner = none ↔ s.port.waiting = [] ∧ s.engine.write ≠ .requested := by
  unfold State.winner Engine.asks
  cases s.port.waiting <;> cases s.engine.write <;> cases s.port.lastGranted <;>
    simp [show (WriteState.none == .requested) = false from rfl, show (WriteState.issued == .requested) = false from rfl]

/-- R98: the pass-through side wins when it alone has a request, or when both have and the release side was granted last. -/
theorem winner_eq_passThrough_iff : s.winner = some .passThrough ↔
    s.port.waiting ≠ [] ∧ (s.engine.write ≠ .requested ∨ s.port.lastGranted = .release) := by
  unfold State.winner Engine.asks
  cases s.port.waiting <;> cases s.engine.write <;> cases s.port.lastGranted <;>
    simp [show (WriteState.none == .requested) = false from rfl, show (WriteState.issued == .requested) = false from rfl]

/-- R98: the release side wins when it alone has a request, or when both have and the pass-through side was granted last. -/
theorem winner_eq_release_iff : s.winner = some .release ↔
    s.engine.write = .requested ∧ (s.port.waiting = [] ∨ s.port.lastGranted = .passThrough) := by
  unfold State.winner Engine.asks
  cases s.port.waiting <;> cases s.engine.write <;> cases s.port.lastGranted <;>
    simp [show (WriteState.none == .requested) = false from rfl, show (WriteState.issued == .requested) = false from rfl]

/-- R98, R99: everything one grant can do: nothing; issue the oldest pass-through request; or issue the release write. -/
theorem grantOne_cases :
    s.grantOne = s ∨
    (∃ t r rest, IsLowestFree s.port t ∧ s.port.waiting = r :: rest ∧
      (s.engine.write ≠ .requested ∨ s.port.lastGranted = .release) ∧
      s.grantOne = s.setPort { s.port with
        tags := s.port.tags.set t.val (.busy (.passThrough r) 0 s.port.timeout), waiting := rest
        lastGranted := .passThrough }) ∨
    (∃ t e, IsLowestFree s.port t ∧ s.engine.write = .requested ∧ s.engine.copy = some e ∧
      (s.port.waiting = [] ∨ s.port.lastGranted = .passThrough) ∧
      s.grantOne = (s.setPort { s.port with
        tags := s.port.tags.set t.val (.busy (.release e) 0 s.port.timeout)
        lastGranted := .release }).setEngine { s.engine with write := .issued }) := by
  unfold State.grantOne
  split
  · next t ht hw =>
    obtain ⟨hn, hc⟩ := (winner_eq_passThrough_iff s).mp hw
    cases h : s.port.waiting with
    | nil => exact absurd h hn
    | cons r rest =>
      refine .inr (.inl ⟨t, r, rest, (freeTag?_eq_some_iff _ t).mp ht, rfl, hc, ?_⟩)
      simp [State.issuePass, h]
  · next t ht hw =>
    obtain ⟨he, hc⟩ := (winner_eq_release_iff s).mp hw
    cases h : s.engine.copy with
    | none => exact .inl (by simp [State.issueRelease, h])
    | some e =>
      refine .inr (.inr ⟨t, e, (freeTag?_eq_some_iff _ t).mp ht, he, rfl, hc, ?_⟩)
      simp [State.issueRelease, h]
  · exact .inl rfl

/-- R98: with no FREE tag, or with nothing waiting, a grant does nothing. -/
theorem grantOne_of_noGrantDue {s : State} (h : NoGrantDue s) : s.grantOne = s := by
  unfold State.grantOne
  rcases h with h | h
  · simp [h]
  · simp only [h]
    split
    · next e => simp at e
    · next e => simp at e
    · rfl

theorem grantAll_of_noGrantDue {s : State} (h : NoGrantDue s) : s.grantAll = s := by
  simp [State.grantAll, grantOne_of_noGrantDue h]

/-- R98: a grant that has done what was due leaves no more to do. -/
theorem grantAll_of_grantOne {s : State} (h : NoGrantDue s.grantOne) : s.grantAll = s.grantOne := by
  unfold State.grantAll
  rw [grantOne_of_noGrantDue h, grantOne_of_noGrantDue h, grantOne_of_noGrantDue h]

/-- R97: the settle counts as the claims write them. -/
theorem changeSettle_raised (p : MemoryPort) (mark : Option GroupId) :
    changeSettle mark (fun n => n + 1) p.settle = settleRaised p mark := by
  cases mark <;> rfl

theorem changeSettle_lowered (p : MemoryPort) (mark : Option GroupId) :
    changeSettle mark (fun n => n - 1) p.settle = settleLowered p mark := by
  cases mark <;> rfl

end Sys2Proof.Machine
end

