-- ==== Sys2Proof/Laws/Store.lean ====
section
/-!
SUPPORT. What each operation of the staging store can do (R35 to R45): everything it answers, and that it keeps the pool in
balance.
-/
namespace Sys2Proof.Machine

variable (s : State) (g : GroupId)

/-- R35: where the first entry at the word address stands, the beat merges into it and every other entry stays. -/
theorem mergeInto_append {address : Word} (data : Word) (mask : Mask) {before behind : List Entry} {e : Entry}
    (h : ∀ x ∈ before, x.address ≠ address) (he : e.address = address) :
    mergeInto address data mask (before ++ e :: behind) = before ++ e.merge data mask :: behind := by
  induction before with
  | nil => simp [mergeInto, he]
  | cons x before ih =>
    have hx := h x (List.mem_cons_self ..)
    simp [mergeInto, hx, ih fun y hy => h y (List.mem_cons_of_mem _ hy)]

/-- R35: a list with no entry at the word address stays as it is. -/
theorem mergeInto_of_forall {address : Word} (data : Word) (mask : Mask) {l : List Entry}
    (h : ∀ x ∈ l, x.address ≠ address) : mergeInto address data mask l = l := by
  induction l with
  | nil => rfl
  | cons x l ih =>
    simp [mergeInto, h x (List.mem_cons_self ..), ih fun y hy => h y (List.mem_cons_of_mem _ hy)]

/-- R35, R38: a merge keeps the number of entries and their addresses. -/
@[simp] theorem mergeInto_addresses (address data : Word) (mask : Mask) (l : List Entry) :
    (mergeInto address data mask l).map Entry.address = l.map Entry.address := by
  induction l with
  | nil => rfl
  | cons x l ih =>
    unfold mergeInto
    split
    · simp [Entry.merge]
    · simp [ih]

@[simp] theorem mergeInto_length (address data : Word) (mask : Mask) (l : List Entry) :
    (mergeInto address data mask l).length = l.length := by
  have h := congrArg List.length (mergeInto_addresses address data mask l)
  simpa only [List.length_map] using h

/-- R41: the lookup finds nothing exactly when the group holds no entry at the word address. -/
theorem lookup_isEmpty_iff (address : Word) :
    (s.lookup g address).isEmpty = true ↔ ∀ e ∈ (s.group g).entries, e.address ≠ address := by
  simp [State.lookup, List.filter_eq_nil_iff]

/-- R37: room for a new entry. -/
theorem hasRoom_iff : s.hasRoom g = true ↔ (s.group g).entries.length < (s.group g).config.cap ∧ 0 < s.free := by
  simp [State.hasRoom]

/-- R35 to R38: everything an add request can do: merge under COALESCE, append with a slot of the pool, or neither for want of
room, with nothing changed. -/
theorem addRequest_cases (address data : Word) (mask : Mask) :
    ((s.group g).config.mode = .coalesce ∧ (∃ e ∈ (s.group g).entries, e.address = address) ∧
      s.addRequest g address data mask = (s.setGroup g { s.group g with
        entries := mergeInto address data mask (s.group g).entries }, .merged)) ∨
    (((s.group g).config.mode = .ordered ∨ ∀ e ∈ (s.group g).entries, e.address ≠ address) ∧ s.hasRoom g = true ∧
      s.addRequest g address data mask = ((s.setFree (s.free - 1)).setGroup g { s.group g with
        entries := (s.group g).entries ++ [newEntry address data mask] }, .appended)) ∨
    (((s.group g).config.mode = .ordered ∨ ∀ e ∈ (s.group g).entries, e.address ≠ address) ∧ s.hasRoom g = false ∧
      s.addRequest g address data mask = (s, .noRoom)) := by
  unfold State.addRequest
  split
  · next hm =>
    split
    · next he =>
      have h := (lookup_isEmpty_iff s g address).mp he
      unfold State.appendEntry
      split
      · next hr => exact .inr (.inl ⟨.inr h, hr, rfl⟩)
      · next hr => exact .inr (.inr ⟨.inr h, by simpa using hr, rfl⟩)
    · next he =>
      rw [lookup_isEmpty_iff] at he
      push Not at he
      exact .inl ⟨hm, he, rfl⟩
  · next hm =>
    unfold State.appendEntry
    split
    · next hr => exact .inr (.inl ⟨.inl hm, hr, rfl⟩)
    · next hr => exact .inr (.inr ⟨.inl hm, by simpa using hr, rfl⟩)

/-- R42: everything the freeing of the entry at position 0 can do. -/
theorem freeHead_cases :
    ((s.group g).entries = [] ∧ s.freeHead g = s) ∨
    ∃ e rest, (s.group g).entries = e :: rest ∧
      s.freeHead g = (s.setFree (s.free + 1)).setGroup g { s.group g with entries := rest } := by
  unfold State.freeHead
  split
  · next h => exact .inl ⟨h, rfl⟩
  · next e rest h => exact .inr ⟨e, rest, h, rfl⟩

/-- R8, R45: the emptying of a group. -/
theorem emptyGroup_eq : s.emptyGroup g =
    (s.setFree (s.free + (s.group g).entries.length)).setGroup g (s.group g).toIdle := rfl

end Sys2Proof.Machine
end

