-- ==== Sys2Proof/Tests/Slice0.lean ====
section
/-!
SUPPORT. Tests of single commands on small states, with expected values from the manual's tables and worked examples, and the
smoke test of the well-formedness checks. Each comment names the source of the expected value.
-/
namespace Sys2Proof.Tests

-- One test after another: the tests in parallel need more memory than a check allows.
set_option Elab.async false

open Machine

/-- A frame with no trailing bits: its bytes after the command code. -/
def frame (bytes : List Byte) : Frame := ⟨bytes, 0⟩

/-- The part right after reset but for one group record. -/
def oneGroup (g : GroupId) (r : GroupRecord) : State := State.reset.setGroup g r

/-- What `read` sees of the next state of a command, if it has one. -/
def seen {α : Type} (c : Instr) (s : State) (read : State → α) : Option α :=
  match exec c s with
  | .next t => some (read t)
  | .fault _ => none
  | .refused _ => none

/-! ## Well-formedness (R52, R165) -/

theorem test_wellFormed_write : (Instr.acceptance ⟨15, 0x1004, .write [⟨5, 0⟩]⟩).wellFormed = true := by decide
theorem test_refuses_misaligned_start : (Instr.acceptance ⟨0, 0x1002, .read 1⟩).wellFormed = false := by decide
theorem test_refuses_no_beat : (Instr.acceptance ⟨0, 0, .write []⟩).wellFormed = false := by decide
theorem test_refuses_seventeen_beats : (Instr.acceptance ⟨0, 0, .read 17⟩).wellFormed = false := by decide
theorem test_refuses_known_code_as_unknown : (Instr.unknownCmd 0x17 (frame [0])).wellFormed = false := by decide
theorem test_unknown_code : (Instr.unknownCmd 0xFF (frame [])).wellFormed = true := by decide

/-! ## The command codes (R183) -/

/-- R183: a frame of zeros is a NOP, one of ones names no command, and one of five bits carries none. -/
theorem test_frames : commandOfFrame [0, 0] 0 = .nop (frame [0]) ∧ commandOfFrame [0xFF] 0 = .unknownCmd 0xFF (frame []) ∧
    commandOfFrame [] 5 = .frameWithoutCompleteByte 5 := by decide

/-- 10_worked_sequences.md, sequence 1: the three set-up frames. -/
theorem test_setup_frames :
    commandOfFrame [0x10, 1, 0, 0, 0x10, 0, 2, 0, 0, 2, 1] 0 = .groupConfig (frame [1, 0, 0, 0x10, 0, 2, 0, 0, 2, 1]) ∧
    commandOfFrame [0x20, 0] 0 = .windowSet (frame [0]) ∧ commandOfFrame [0x28, 0] 0 = .pointSet (frame [0]) := by decide

/-! ## The control link's own commands -/

/-- R162: after the nine rising edges of 0x41, most significant bit first, and of one bit more. -/
theorem test_receiver : ([false, true, false, false, false, false, false, true, true].foldl ControlLink.sckRise
      ({} : ControlLink).select) =
    { selected := true, sdoDriven := true, bitCount := 9, received := [0x41], partialBits := [true]
      sdo := List.replicate 9 false } := by decide +kernel

/-- R168, R174: the frame shifts out the old result, 0x07 and then filler; the buffer then holds OK. -/
theorem test_nop : seen (.nop (frame [0])) { State.reset with link := { result := [0x07] } }
      (fun t => (t.link.result, t.link.sdo)) =
    some ([0x00], [false, false, false, false, false, true, true, true, false, false, false, false, false, false, false,
      false]) := by decide +kernel

/-- R165, R171: a NOP of one byte is refused FRAME_SHORT. -/
theorem test_nop_short : seen (.nop (frame [])) State.reset (fun t => t.link.result) = some [0x09] := by decide +kernel

/-- R189 at reset: 1024 free, eight IDLE groups, engine IDLE, empty queues, not STUCK, lock state NONE. -/
theorem test_bridge_status : seen (.bridgeStatus (frame [0x5A])) State.reset (fun t => t.link.result) =
    some [0x00, 0x04, 0x00, 0, 0, 0, 0, 0, 0, 0, 0, 0, 0, 0xFF, 0xFF, 0xFF, 0xFF, 0xFF, 0xFF, 0xFF, 0xFF, 0, 0, 0, 0] := by
  decide +kernel

/-- R7: SOFT_RESET keeps the cap and the sequence number, and empties the list. -/
theorem test_soft_reset : seen (.softReset (frame [0]))
      { oneGroup 1 { config := { cap := 16 }, state := .armed, condition := some .trig, sequence := 41, missedCount := 3
                     entries := [⟨0, 0, 1⟩] } with free := 1023 }
      (fun t => (t.group 1, t.free)) = some ({ config := { cap := 16 }, sequence := 41 }, 1024) := by decide +kernel

/-- R183: a frame whose SDI is held high. -/
theorem test_unknown_cmd : seen (.unknownCmd 0xFF (frame [0xFF])) State.reset (fun t => t.link.result) = some [0x0A] := by
  decide +kernel

/-- 08_control_link.md, frame 6: five bits of FRAME_SHORT come out, and it stays in the buffer. -/
theorem test_frame_of_five_bits : seen (.frameWithoutCompleteByte 5) { State.reset with link := { result := [0x09] } }
      (fun t => (t.link.result, t.link.sdo)) = some ([0x09], [false, false, false, false, true]) := by decide +kernel

/-! ## The group commands -/

/-- Sequence 1: COALESCE, cap 16, REFUSE, filter requester 2, ABORT, repeat 0, deadline 2, FORCE. -/
theorem test_group_config : seen (.groupConfig (frame [1, 0, 0, 0x10, 0, 2, 0, 0, 2, 1])) State.reset
      (fun t => (t.group 1).config) = some ⟨.coalesce, 16, .refuse, some 2, .abort, 0, 2, .force⟩ := by decide +kernel

/-- R182: a cap of 0x0401 is refused. -/
theorem test_group_config_cap : seen (.groupConfig (frame [1, 0, 0x04, 0x01, 0, 2, 0, 0, 2, 1])) State.reset
      (fun t => t.link.result) = some [0x03] := by decide +kernel

/-- R12: opened from IDLE, the flags of the last period are cleared; reopened from CLOSED, they stand. -/
theorem test_group_open : seen (.groupOpen (frame [3])) (oneGroup 3 { overflowed := true, overflowReported := true })
      (fun t => t.group 3) = some { state := .opened } := by decide +kernel
theorem test_group_reopen : seen (.groupOpen (frame [3]))
      (oneGroup 3 { state := .closed, checkCode := some 0, collided := true, collisionCount := 2 }) (fun t => t.group 3) =
    some { state := .opened, collided := true, collisionCount := 2 } := by decide +kernel

/-- Sequence 1: the four entries of group 1 at the second close. -/
def bankEntries : List Entry :=
  [⟨0x20001000, 0x00000780, 0xF⟩, ⟨0x20001004, 0x00000440, 0xF⟩, ⟨0x20001008, 0x00000001, 0xF⟩,
    ⟨0x20001010, 0x00000003, 0x1⟩]

/-- Sequence 1, R47, R48: the close feeds the 36 bytes of the table; 0xDD8FAFDB is their CRC by an independent program. -/
theorem test_group_close : seen (.groupClose (frame [1, 1, 0xDD, 0x8F, 0xAF, 0xDB]))
      (oneGroup 1 { state := .opened, entries := bankEntries }) (fun t => ((t.group 1).state, t.link.result)) =
    some (.closed, [0x00, 0xDD, 0x8F, 0xAF, 0xDB]) := by decide +kernel

/-- Sequence 1: the first close, over three entries, is refused CHECK_MISMATCH with their code. -/
theorem test_group_close_mismatch : seen (.groupClose (frame [1, 1, 0xDD, 0x8F, 0xAF, 0xDB]))
      (oneGroup 1 { state := .opened, entries := bankEntries.take 3 }) (fun t => ((t.group 1).state, t.link.result)) =
    some (.opened, [0x06, 0x98, 0xF4, 0xE3, 0xD8]) := by decide +kernel

/-- 09_pins_frames_and_records.md, the arming of group 2 on launch point 5 with repeat 3 and deadline 0. -/
theorem test_group_arm : seen (.groupArm (frame [2, 2, 5]))
      ((oneGroup 2 { config := { repeats := 3 }, state := .closed, checkCode := some 9 }).setPoint 5 { enabled := true })
      (fun t => (t.group 2, t.link.result)) =
    some ({ config := { repeats := 3 }, state := .armed, checkCode := some 9, condition := some (.point 5)
            repeatsRemaining := 3 }, [0x00]) := by decide +kernel

/-- R15: AFTER a group that is IDLE is refused BAD_CHAIN. -/
theorem test_group_arm_bad_chain : seen (.groupArm (frame [2, 5, 3])) (oneGroup 2 { state := .closed, checkCode := some 0 })
      (fun t => t.link.result) = some [0x04] := by decide +kernel

/-- R18: a PENDING group leaves the queue, and the groups behind it move up. -/
theorem test_group_disarm : seen (.groupDisarm (frame [6]))
      { oneGroup 6 { state := .pending, condition := some .trig, checkCode := some 0, missed := true } with
        launchQueue := [5, 6, 4] }
      (fun t => (t.group 6, t.launchQueue)) =
    some ({ state := .closed, checkCode := some 0, missed := true }, [5, 4]) := by decide +kernel

/-- R19, R81: with the engine busy a launched group waits at the end of the queue. -/
theorem test_group_launch : seen (.groupLaunch (frame [6]))
      { oneGroup 6 { state := .armed, condition := some .soft, checkCode := some 0, deadlineRemaining := some 4 } with
        launchQueue := [5], engine := { state := .settling, group := some 1, kind := some .oneShot } }
      (fun t => ((t.group 6).state, (t.group 6).deadlineRemaining, t.launchQueue)) =
    some (.pending, none, [5, 6]) := by decide +kernel

/-- Sequence 3: the discard of the OPEN group 6 frees its three entries, and OVERFLOWED is still shown. -/
theorem test_group_discard : seen (.groupDiscard (frame [6]))
      { oneGroup 6 { state := .opened, overflowed := true, overflowReported := true
                     entries := [⟨0x10000000, 1, 15⟩, ⟨0x10000004, 1, 15⟩, ⟨0x10000008, 1, 15⟩] } with free := 2 }
      (fun t => ((t.group 6).state, (t.group 6).entries.length, (t.group 6).overflowed, t.free)) =
    some (.idle, 0, true, 5) := by decide +kernel

/-- 04, "a stuck port and a discard": the REQUESTED write is withdrawn, the stop ends at once, the result is 0 written and 1
failed, and the four remaining entries are freed. -/
theorem test_group_discard_releasing : seen (.groupDiscard (frame [6]))
      { oneGroup 6 { state := .releasing, condition := some .trig, checkCode := some 0, sequence := 7
                     entries := List.replicate 4 ⟨0, 0, 1⟩ } with
        free := 1020
        port := { tags := Vector.replicate 4 .abandoned }
        engine := ⟨.draining, some 6, some .oneShot, 0, 1, 0, .requested, some ⟨0, 0, 1⟩, none⟩ }
      (fun t => (t.engine.state, t.group 6, t.free, t.completions.records.map CompletionRecord.kind)) =
    some (.idle, { sequence := 8, lastFailed := 1 }, 1024, [.discarded]) := by decide +kernel

/-- 09, the record of group 2 after the arming: bytes 10 and 13 to 18. -/
theorem test_group_status : seen (.groupStatus (frame [2]))
      (oneGroup 2 { state := .armed, condition := some (.point 5), repeatsRemaining := 3, checkCode := some 0x01020304 })
      (fun t => (t.link.result.length, (t.link.result.drop 10).take 16)) =
    some (33, [0x03, 0, 0, 0x01, 0x02, 0x05, 0x00, 0x00, 3, 0, 0, 0x01, 1, 2, 3, 4]) := by decide +kernel

/-- R185: bytes 1 to 9 of GROUP_STATUS after reset. -/
theorem test_group_status_reset : seen (.groupStatus (frame [7])) State.reset
      (fun t => (t.link.result.drop 1).take 9) = some [0x00, 0x00, 0x80, 0x00, 0xFF, 0x00, 0x00, 0x00, 0x00] := by
  decide +kernel

/-- R188: the entry at position 0 of group 2 in the staging store's example. -/
theorem test_entry_read : seen (.entryRead (frame [2, 0, 0]))
      (oneGroup 2 { state := .opened, entries := [⟨0x00040100, 0x11227766, 0xF⟩] }) (fun t => t.link.result) =
    some [0x00, 0x00, 0x04, 0x01, 0x00, 0x0F, 0x11, 0x22, 0x77, 0x66] := by decide +kernel

/-- R49: a position at the entry count is refused BAD_INDEX. -/
theorem test_entry_read_beyond : seen (.entryRead (frame [2, 0, 1]))
      (oneGroup 2 { state := .opened, entries := [⟨0x00040100, 0x11227766, 0xF⟩] }) (fun t => t.link.result) =
    some [0x02] := by decide +kernel

/-! ## Windows, points and the timebase -/

/-- Sequence 1: base and limit 0x20001000, group 1, PASS, MERGE. -/
theorem test_window_set : seen (.windowSet (frame [0, 0x20, 0, 0x10, 0, 0x20, 0, 0x10, 0, 1, 0, 1])) State.reset
      (fun t => t.window 0) = some ⟨true, 0x20001000, 0x20001000, 1, .pass, .merge⟩ := by decide +kernel

/-- R59: refused BUSY while the group the command names is RELEASING. -/
theorem test_window_set_busy : seen (.windowSet (frame [0, 0x20, 0, 0x10, 0, 0x20, 0, 0x10, 0, 1, 0, 1]))
      (oneGroup 1 { state := .releasing }) (fun t => t.link.result) = some [0x07] := by decide +kernel

/-- R60, R188: a cleared window keeps its fields, and reads back invalid. -/
theorem test_window_clear : seen (.windowClear (frame [15]))
      (State.reset.setWindow 15 ⟨true, 0x40, 0x80, 7, .refuse, .merge⟩) (fun t => t.window 15) =
    some ⟨false, 0x40, 0x80, 7, .refuse, .merge⟩ := by decide +kernel
theorem test_window_read : seen (.windowRead (frame [15]))
      (State.reset.setWindow 15 ⟨false, 0x40, 0x80, 7, .refuse, .merge⟩) (fun t => t.link.result) =
    some [0x00, 0x00, 0, 0, 0, 0x40, 0, 0, 0, 0x80, 7, 1, 1] := by decide +kernel

/-- Sequence 1: enabled, frame mask 0, line check on, line 4. -/
theorem test_point_set : seen (.pointSet (frame [0, 1, 0, 0, 0, 0, 1, 0, 4])) State.reset (fun t => t.point 0) =
    some ⟨true, 0, 0, true, 4⟩ := by decide +kernel

/-- R188: bytes 2 to 9 of POINT_SET come back. -/
theorem test_point_read : seen (.pointRead (frame [7])) (State.reset.setPoint 7 ⟨true, 0x1234, 0xFF00, false, 4095⟩)
      (fun t => t.link.result) = some [0x00, 0x01, 0x12, 0x34, 0xFF, 0x00, 0x00, 0x0F, 0xFF] := by decide +kernel

/-- R120: EXTERNAL, line period 1000, L 1125, T 8 puts the lock state to SEARCH. -/
theorem test_timebase_config : seen (.timebaseConfig (frame [0, 1, 0x03, 0xE8, 0x04, 0x65, 0, 8]))
      { State.reset with timebase := { frame := 9, line := 3, timer := 7 } } (fun t => t.timebase) =
    some ⟨9, 3, 7, .external, .search, none, 1000, 1125, 8⟩ := by decide +kernel

/-- R186: a T of 256 is refused. -/
theorem test_timebase_config_tolerance : seen (.timebaseConfig (frame [0, 1, 0x03, 0xE8, 0x04, 0x65, 1, 0])) State.reset
      (fun t => t.link.result) = some [0x03] := by decide +kernel

/-- R188 with a pending load of 0. -/
theorem test_timebase_read : seen (.timebaseRead (frame [0]))
      { State.reset with timebase := ⟨4000, 20, 5, .external, .locked, some 0, 1000, 1125, 8⟩ } (fun t => t.link.result) =
    some [0x00, 0x0F, 0xA0, 0x00, 0x14, 0x01, 0x02, 0x01, 0x00, 0x00, 0x03, 0xE8, 0x04, 0x65, 0x00, 0x08] := by
  decide +kernel

/-- Sequence 5: TIMEBASE_LOAD 5000. -/
theorem test_timebase_load : seen (.timebaseLoad (frame [0, 0x13, 0x88])) State.reset
      (fun t => (t.timebase.pendingLoad, t.timebase.frame)) = some (some 5000, 0) := by decide +kernel

/-- R103: 256 is the least timeout. -/
theorem test_port_config : seen (.portConfig (frame [0, 1, 0])) State.reset (fun t => t.port.timeout) = some 256 := by
  decide +kernel
theorem test_port_config_low : seen (.portConfig (frame [0, 0, 255])) State.reset
      (fun t => (t.port.timeout, t.link.result)) = some (4096, [0x03]) := by decide +kernel

/-! ## The completion queue -/

/-- 09: the RELEASED record of group 2 with 4 written and flags 0x12. -/
theorem test_queue_pop : seen (.queuePop (frame [0]))
      { State.reset with completions := { records := [⟨.released, some 2, some ⟨6, 4, 0⟩, 301, 4,
        { missed := true, repeated := true }, 0⟩] }, irqLow := true }
      (fun t => (t.link.result, t.completions.records, t.irqLow)) =
    some ([0x00, 0x01, 0x01, 2, 0x01, 0, 6, 0x01, 0x2D, 0, 4, 0x01, 0, 4, 0, 0, 0x12, 0], [], false) := by decide +kernel
theorem test_queue_pop_empty : seen (.queuePop (frame [0])) State.reset (fun t => t.link.result) = some [0x08] := by
  decide +kernel

/-- R159: a threshold lowered to the record count drives IRQ_N low at once. -/
theorem test_irq_config : seen (.irqConfig (frame [0, 1, 1, 0]))
      { State.reset with completions := { records := [⟨.released, some 2, none, 0, 0, {}, 0⟩] }, irq := { threshold := 32 } }
      (fun t => (t.irq, t.irqLow)) = some (⟨true, 1, false⟩, true) := by decide +kernel

/-! ## The resets -/

/-- R180: the configuration goes too. -/
theorem test_power_on_reset : seen .powerOnReset (oneGroup 1 { config := { cap := 16 }, sequence := 41 })
      (fun t => (t.group 1, t.inReset)) = some ({}, true) := by decide +kernel
theorem test_rst_n : seen (.rstN 16) (oneGroup 1 { sequence := 41 }) (fun t => ((t.group 1).sequence, t.inReset)) =
    some (0, true) := by decide +kernel

/-- R135: a TRIG held high through the reset makes no edge. -/
theorem test_reset_release : seen (.resetRelease true false) { State.reset with inReset := true }
      (fun t => (t.inReset, t.trigLevel)) = some (false, true) := by decide +kernel

/-- R163, R168: with CS_N low at the release, SDO is driven until CS_N rises, and that rise ends no frame. -/
theorem test_reset_release_cs_low : seen (.resetRelease false true) { State.reset with inReset := true }
      (fun t => (t.link.sdoDriven, t.link.csHeldLow)) = some (true, true) := by decide +kernel

/-! ## The system port -/

/-- A WAITING transaction of one read beat. -/
def waitingRead (id : Nat) (start : Word) : Ingress := { id, request := ⟨4, start, .read 1⟩ }

/-- R53: a ninth transaction is held off. -/
theorem test_acceptance : seen (.acceptance ⟨1, 0x40000010, .write [⟨7, 0xF⟩]⟩) State.reset
      (fun t => t.ingress.map Ingress.dispatched) = some [false] := by decide +kernel
theorem test_acceptance_full : seen (.acceptance ⟨1, 0, .read 1⟩)
      { State.reset with ingress := List.replicate 8 (waitingRead 0 0) } (fun t => t.ingress.length) = some 8 := by
  decide +kernel

/-- 03, "one burst through two windows": the table and the groups. -/
def twoWindows : State :=
  { ((State.reset.setWindow 1 ⟨true, 0x00040000, 0x000400C0, 2, .refuse, .merge⟩).setWindow 4
      ⟨true, 0x00040000, 0x000403C0, 5, .pass, .pass⟩) with
    groups := (State.reset.groups.set 2 { state := .opened }).set 5
      { state := .closed, checkCode := some 0, entries := [⟨0x00040100, 1, 0xF⟩] }
    free := 1023
    ingress := [{ id := 0, request := ⟨3, 0x000400F8,
      .write [⟨0xA0A0A0A0, 0xF⟩, ⟨0, 0⟩, ⟨0x0000BBBB, 0x3⟩, ⟨0xCCCCCCCC, 0xF⟩]⟩ }] }

/-- 03: group 2 captures one entry, group 5 is collided with once, and two requests go out with settle mark 5, when nothing
comes between the beats. The command judges the first three beats so (before beat 2 every tag is FREE). The same burst at
0x000403F8 crosses a 1 KiB block and is answered ERROR. -/
theorem test_judgement :
    ((twoWindows.judge id).group 2).entries = [⟨0x000400F8, 0xA0A0A0A0, 0xF⟩] ∧
    (twoWindows.judge id).ingress.map Ingress.results =
      [[.finished .okay 0, .finished .okay 0, .outstanding, .outstanding]] ∧
    ((twoWindows.judge id).group 5).collisionCount = 1 ∧ (twoWindows.judge id).settleCount 5 = 2 ∧
    seen .judgement { twoWindows with ingress := [{ id := 0, request := ⟨3, 0x000400F8,
        .write [⟨0xA0A0A0A0, 0xF⟩, ⟨0, 0⟩, ⟨0x0000BBBB, 0x3⟩]⟩ }] }
      (fun t => (t.ingress.map Ingress.results, (t.group 5).collided, t.settleCount 5, t.free)) =
      some ([[.finished .okay 0, .finished .okay 0, .outstanding]], true, 1, 1022) ∧
    seen .judgement { twoWindows with ingress := [{ id := 0, request := ⟨3, 0x000403F8, .write (List.replicate 4 ⟨0, 0xF⟩)⟩ }] }
      (fun t => (t.ingress.map Ingress.results, (t.group 5).collided, t.port)) =
      some ([List.replicate 4 (.finished .error 0)], false, State.reset.port) := by
  refine ⟨?_, ?_, ?_, ?_, ?_, ?_⟩ <;> decide +kernel

/-- R37, R70: a head of two write beats. -/
def roomHead : Ingress := { id := 0, request := ⟨3, 0x00040000, .write [⟨7, 0xF⟩, ⟨8, 0xF⟩]⟩ }

/-- R37, R70, R85: two beats for the OPEN group 2 with one slot free, while group 4 drains with a write on tag 0. -/
def roomLater : State :=
  { (State.reset.setWindow 1 ⟨true, 0x00040000, 0x000400C0, 2, .refuse, .merge⟩) with
    groups := (State.reset.groups.set 2 { state := .opened }).set 4
      { state := .releasing, condition := some .soft, checkCode := some 0, entries := [⟨0, 1, 0xF⟩, ⟨4, 2, 0xF⟩] }
    engine := { state := .draining, group := some 4, kind := some .oneShot, write := .issued, copy := some ⟨0, 1, 0xF⟩ }
    port := { State.reset.port with tags := State.reset.port.tags.set 0 (.busy (.release ⟨0, 1, 0xF⟩) 0 4096) }
    free := 1
    ingress := [roomHead] }

/-- R70: the second beat overflows when nothing comes in between, and is captured when the response of the release write
has freed a slot in between. -/
theorem test_judgement_room_freed :
    (roomLater.judge id).ingress.map Ingress.results = [[.finished .okay 0, .finished .error 0]] ∧
    (roomLater.judge fun s => s.takeBetween (.response 0 .okay 0)).ingress.map Ingress.results =
      [[.finished .okay 0, .finished .okay 0]] := by decide +kernel

/-- R56: one ERROR for a write of which one beat failed, and its place is freed. -/
theorem test_transaction_response : seen .transactionResponse
      { State.reset with ingress := [{ id := 0, request := ⟨3, 0, .write [⟨0, 0xF⟩, ⟨0, 0xF⟩]⟩, dispatched := true
                                       results := [.finished .okay 0, .finished .error 0] }, waitingRead 1 0] }
      (fun t => (t.response, t.ingress.length)) = some (some (.write 3 .error), 1) := by decide +kernel

/-! ## The staging store's example (02) -/

/-- 02: group 2 before step 4. -/
def storeGroup : GroupRecord :=
  { config := { cap := 4 }, state := .opened, entries := [⟨0x00040100, 0x11223344, 0xF⟩, ⟨0x00040104, 0x0000AA00, 0x2⟩] }

/-- 02, step 4: the beat merges into position 0. -/
theorem test_store_merge : ((oneGroup 2 storeGroup).addRequest 2 0x00040100 0x99887766 0x3).2 = .merged ∧
    (((oneGroup 2 storeGroup).addRequest 2 0x00040100 0x99887766 0x3).1.group 2).entries.head? =
      some ⟨0x00040100, 0x11227766, 0xF⟩ := by decide +kernel

/-- 02, step 6: byte 3 joins byte 1. -/
theorem test_store_merge_mask : (((oneGroup 2 storeGroup).addRequest 2 0x00040104 0x55000000 0x8).1.group 2).entries[1]? =
      some ⟨0x00040104, 0x5500AA00, 0xA⟩ := by decide +kernel

/-- R48: the nine test bytes. -/
theorem test_check_code : crc [0x31, 0x32, 0x33, 0x34, 0x35, 0x36, 0x37, 0x38, 0x39] = 0xCBF43926 := by decide +kernel

/-! ## The memory port and the release engine: 04, "a release meeting a stream of traffic" -/

/-- The three entries E0, E1 and E2. -/
def e0 : Entry := ⟨0x100, 10, 0xF⟩
def e1 : Entry := ⟨0x104, 11, 0xF⟩
def e2 : Entry := ⟨0x108, 12, 0xF⟩

/-- A pass-through request of beat 0 of a transaction, with a settle mark. -/
def pass (id : Nat) (mark : Option GroupId) : PassRequest := { address := 0x200, access := .read, mark, id, beat := 0 }

/-- A tag BUSY with it. -/
def busyPass (id : Nat) (mark : Option GroupId) : TagState := .busy (.passThrough (pass id mark)) 0 4096

/-- The part at the start: group 4 PENDING, P1 marked 4, P2 and P3 unmarked. -/
def trafficStart : State :=
  { oneGroup 4 { state := .pending, condition := some .trig, checkCode := some 0, entries := [e0, e1, e2] } with
    free := 1021, launchQueue := [4]
    port := { tags := #v[busyPass 1 (some 4), busyPass 2 none, busyPass 3 none, .free]
              settle := #v[0, 0, 0, 0, 1, 0, 0, 0] } }

/-- The engine takes group 4 and waits in SETTLING. -/
theorem test_taking : seen .taking trafficStart (fun t => (t.engine.state, (t.group 4).state, t.launchQueue)) =
    some (.settling, .releasing, []) := by decide +kernel

/-- The part in SETTLING after P2 has been answered. -/
def trafficSettling : State :=
  { oneGroup 4 { state := .releasing, condition := some .trig, checkCode := some 0, entries := [e0, e1, e2] } with
    free := 1021, engine := { state := .settling, group := some 4, kind := some .oneShot }
    port := { tags := #v[busyPass 1 (some 4), .free, busyPass 3 none, .free], settle := #v[0, 0, 0, 0, 1, 0, 0, 0] } }

/-- P1 answered OKAY: SETTLING ends, and E0 is requested and granted tag 0. -/
theorem test_response_ends_settling : seen (.response 0 .okay 0) trafficSettling
      (fun t => (t.engine.state, t.engine.write, t.tag 0, t.port.lastGranted, t.settleCount 4)) =
    some (.draining, .issued, .busy (.release e0) 0 4096, .release, 0) := by decide +kernel

/-- The part with E0 issued, and P6 and P7 waiting. -/
def trafficDraining : State :=
  { oneGroup 4 { state := .releasing, condition := some .trig, checkCode := some 0, entries := [e0, e1, e2] } with
    free := 1021, engine := ⟨.draining, some 4, some .oneShot, 0, 0, 0, .issued, some e0, none⟩
    port := { tags := #v[.busy (.release e0) 0 4096, busyPass 4 none, busyPass 3 none, busyPass 5 none]
              waiting := [pass 6 none, pass 7 none] } }

/-- E0 answered OKAY: it is freed, E1 is requested, and the contested tag 0 goes to the release side. -/
theorem test_response_walks_on : seen (.response 0 .okay 0) trafficDraining
      (fun t => ((t.group 4).entries, t.free, t.engine.written, t.tag 0, t.port.waiting.length, t.port.lastGranted)) =
    some ([e1, e2], 1022, 1, .busy (.release e1) 0 4096, 2, .release) := by decide +kernel

/-- E0 times out under ABORT: tag 0 is ABANDONED, the release is a fault, and group 4 keeps its entries. -/
theorem test_response_timeout : seen (.responseTimeout 0) trafficDraining
      (fun t => (t.tag 0, t.engine.state, (t.group 4).state, (t.group 4).entries.length,
        t.completions.records.map CompletionRecord.kind)) =
    some (.abandoned, .idle, .faulted, 3, [.releaseFault]) := by decide +kernel

/-- 04, "a stuck port": the fourth ABANDONED tag queues DOWNSTREAM_STUCK, and E1 stays REQUESTED. -/
theorem test_response_timeout_stuck : seen (.responseTimeout 0)
      { oneGroup 6 { config := { errorPolicy := .carryOn }, state := .releasing, condition := some .trig
                     checkCode := some 0, entries := [e0, e1] } with
        engine := ⟨.draining, some 6, some .oneShot, 0, 0, 0, .issued, some e0, none⟩
        port := { tags := #v[.busy (.release e0) 0 4096, .abandoned, .abandoned, .abandoned] } }
      (fun t => (t.engine.write, t.engine.failed, t.port.isStuck, t.completions.records.map CompletionRecord.kind)) =
    some (.requested, 1, true, [.downstreamStuck]) := by decide +kernel

/-- R98: with both sides waiting and PASS_THROUGH granted last, the release side wins. -/
theorem test_grant : seen .grant
      { trafficDraining with engine := ⟨.draining, some 4, some .oneShot, 0, 0, 0, .requested, some e0, none⟩
                             port := { tags := #v[.abandoned, .free, .free, .abandoned], waiting := [pass 6 none] } }
      (fun t => (t.tag 1, t.tag 2, t.engine.write)) = some (.busy (.release e0) 0 4096, .free, .issued) := by
  decide +kernel

/-- R190: while CLK stands still, no event is taken, and the request keeps waiting. -/
theorem test_grant_stopped_clk : seen .grant { State.reset with port := { waiting := [pass 6 none] }, clkRuns := false }
      (fun t => (t.tag 0, t.port.waiting)) = some (.free, [pass 6 none]) := by decide +kernel

/-- R83: with its settle count at 0 the release leaves SETTLING. -/
theorem test_settling_end : seen .settlingEnd
      { trafficSettling with port := { tags := #v[.abandoned, .free, .free, .free] } }
      (fun t => (t.engine.state, t.tag 1)) = some (.draining, .busy (.release e0) 0 4096) := by decide +kernel

/-- Sequence 1: the completion makes the sequence number 42 with 4 written, and the group IDLE. -/
theorem test_release_completion : seen .releaseCompletion
      { oneGroup 1 { state := .releasing, condition := some (.point 0), checkCode := some 0, sequence := 41 } with
        engine := ⟨.draining, some 1, some .oneShot, 4, 0, 0, .none, none, none⟩ }
      (fun t => (t.group 1, t.engine.state, t.irqLow)) =
    some ({ sequence := 42, lastWritten := 4 }, .idle, true) := by decide +kernel

/-- Sequence 2: group 0 completes with one missed launch: record 19 with MISSED and REPEAT, the count reported and cleared. -/
theorem test_release_completion_missed : seen .releaseCompletion
      { oneGroup 0 { state := .releasing, condition := some .nextFrame, repeatsRemaining := 1, sequence := 18
                     missed := true, missedCount := 1 } with
        engine := ⟨.draining, some 0, some .repeating, 0, 0, 0, .none, none, none⟩ }
      (fun t => ((t.group 0).missedCount, t.completions.records, t.reported)) =
    some (0, [⟨.released, some 0, some ⟨19, 0, 0⟩, 0, 0, { missed := true, repeated := true }, 0⟩], [⟨1, 0⟩]) := by
  decide +kernel

/-! ## The timebase and the launch unit: sequence 5 -/

/-- LOCKED at 4000/1132 with L 1125 and T 8. -/
def late : State := { State.reset with timebase := ⟨4000, 1132, 999, .external, .locked, none, 1000, 1125, 8⟩ }

/-- The expiry is the loss of sync: 4001/0 in FLYWHEEL, with SYNC_LOST. -/
theorem test_line_timer_expiry : seen .lineTimerExpiry late (fun t => (t.timebase, t.completions.records)) =
    some (⟨4001, 0, 0, .external, .flywheel, none, 1000, 1125, 8⟩, [⟨.syncLost, none, none, 4001, 0, {}, 0⟩]) := by
  decide +kernel

/-- The regain after line mark 311 takes the pending load: 5000/0 in LOCKED, with SYNC_REGAINED. -/
theorem test_fsync_edge : seen (.fsyncEdge 2 2)
      { State.reset with timebase := ⟨4002, 311, 500, .external, .flywheel, some 5000, 1000, 1125, 8⟩ }
      (fun t => (t.timebase, t.completions.records)) =
    some (⟨5000, 0, 0, .external, .locked, none, 1000, 1125, 8⟩, [⟨.syncRegained, none, none, 5000, 0, {}, 0⟩]) := by
  decide +kernel

/-- R113, R190: of two close edges, the first of them missed, the second is seen: the first edge in SEARCH. -/
theorem test_fsync_second_of_two_edges : seen (.fsyncEdge 1 5)
      { State.reset with
        timebase := { State.reset.timebase with mode := .external, lock := .search }, missedEdges := { fsync := true } }
      (fun t => (t.timebase.lock, t.timebase.frame, t.missedEdges.fsync)) = some (.locked, 1, false) := by decide +kernel

/-- 06, "one frame mark and six groups": the part before the mark for frame 20. -/
def beforeMark : State :=
  { State.reset with
    groups := #v[{ state := .armed, condition := some (.after 5), deadlineRemaining := some 2 },
      { state := .armed, condition := some (.point 2) },
      { state := .armed, condition := some .nextFrame, deadlineRemaining := some 1 },
      { state := .releasing, condition := some .nextFrame },
      { config := { deadlineAction := .force }, state := .armed, condition := some .trig, deadlineRemaining := some 1 },
      { state := .armed, condition := some .soft, deadlineRemaining := some 1 },
      { state := .pending, condition := some (.point 2) }, {}]
    points := State.reset.points.set 2 { enabled := true, frameMask := 3 }
    engine := ⟨.draining, some 3, some .oneShot, 0, 0, 0, .none, none, none⟩
    timebase := { frame := 19, line := 1124 }
    launchQueue := [6] }

/-- 06: the groups, the queue and the records after the mark. -/
theorem test_frame_mark_groups : seen .lineTimerExpiry beforeMark (fun t => t.groups.toList.map GroupRecord.state) =
    some [.closed, .pending, .pending, .releasing, .pending, .idle, .pending, .idle] := by decide +kernel
theorem test_frame_mark_queue : seen .lineTimerExpiry beforeMark (fun t =>
      (t.launchQueue, (t.group 4).forced, (t.group 6).missedCount)) = some ([6, 1, 2, 4], true, 1) := by decide +kernel
theorem test_frame_mark_records : seen .lineTimerExpiry beforeMark (fun t => t.completions.records) =
    some [⟨.deadlineCancelled, some 5, none, 20, 0, {}, 0⟩, ⟨.chainBroken, some 0, none, 20, 0, {}, 0⟩] := by decide +kernel

/-- R135: a TRIG edge makes an ARMED group PENDING and counts a missed launch of a RELEASING one. -/
theorem test_trig_edge : seen (.trigEdge 2 2)
      { State.reset with
        groups := (State.reset.groups.set 1 { state := .releasing, condition := some .trig }).set 3
          { state := .armed, condition := some .trig }
        engine := ⟨.settling, some 1, some .oneShot, 0, 0, 0, .none, none, none⟩ }
      (fun t => ((t.group 1).missedCount, (t.group 3).state, t.launchQueue)) = some (1, .pending, [3]) := by decide +kernel

/-- R25: under CANCEL the group goes to IDLE with a DEADLINE_CANCELLED record. -/
theorem test_deadline_expiry : seen (.deadlineExpiry 5)
      (oneGroup 5 { state := .armed, condition := some .soft, deadlineRemaining := some 0, checkCode := some 0 })
      (fun t => ((t.group 5).state, t.completions.records.map CompletionRecord.kind)) =
    some (.idle, [.deadlineCancelled]) := by decide +kernel

end Sys2Proof.Tests
end

