-- ==== Sys2Proof/Tests/Witnesses.lean ====
section
/-!
SUPPORT. For every statement of Certificates/Slice0/Obligations.lean that has hypotheses, a concrete state and operands that
meet all the hypotheses of each of its clauses, at the ends of the ranges where a hypothesis is a range. A hypothesis that
only gives a name to a term (p = …) is met by that term, and is left out here.
-/
namespace Sys2Proof.Tests

-- One test after another: the tests in parallel need more memory than a check allows.
set_option Elab.async false

open Machine Safety

/-- An engine that is not IDLE, and holds a group other than 7. -/
def busyEngine : Engine := { state := .settling, group := some 1, kind := some .oneShot }

/-- A group 7 RELEASING, in hand of the engine with the given context. -/
def releasing7 (r : GroupRecord) (e : Engine) : State :=
  { oneGroup 7 { r with state := .releasing, condition := some .trig, checkCode := some 0 } with
    engine := { e with group := some 7, kind := some .oneShot } }

/-- The part with the given tags. -/
def withTags (tags : Vector TagState 4) (s : State) : State := { s with port := { s.port with tags } }

/-! ## The step and the resets -/

theorem witness_StepTakesFrontCommand : ({ State.reset with pending := [.grant, .taking] } : State).pending =
    Instr.grant :: [.taking] := rfl

/-- A timer one short of its last period, and a line timer likewise. -/
def nearExpiry : State :=
  { withTags #v[.busy (.release e0) 4094 4096, .free, .abandoned, .free] State.reset with timebase := { timer := 998 } }

/-- The timers one period short of their limits, and group 7 in the launch queue of an IDLE engine. -/
def atExpiry : State :=
  { oneGroup 7 { state := .pending, condition := some .trig, checkCode := some 0, entries := [e0] } with
    port := { tags := #v[.busy (.passThrough (pass 1 none)) 4095 4096, .free, .abandoned, .free] }
    timebase := { timer := 999 }, launchQueue := [7] }

theorem witness_EmptyQueueIsOneClockPeriod :
    (({ State.reset with inReset := true } : State).pending = [] ∧ ({ State.reset with inReset := true } : State).inReset = true) ∧
    (nearExpiry.pending = [] ∧ nearExpiry.inReset = false ∧
      (nearExpiry.engine.state ≠ .idle ∨ nearExpiry.launchQueue = []) ∧
      (∀ t r n m, nearExpiry.tag t = .busy r n m → n + 1 < m) ∧
      nearExpiry.timebase.timer + 1 < nearExpiry.timebase.linePeriod) ∧
    -- a response timer and the line timer one short of their limits, and a taking put off
    (atExpiry.pending = [] ∧ atExpiry.inReset = false ∧ atExpiry.engine.state = .idle ∧ atExpiry.launchQueue = [7] ∧
      TimerDue (timersAdvanced atExpiry) 0 ∧ atExpiry.timebase.linePeriod ≤ atExpiry.timebase.timer + 1) := by
  refine ⟨by decide, ⟨by decide, by decide, by decide, ?_, by decide⟩,
    by decide, by decide, by decide, by decide, ⟨.passThrough (pass 1 none), 4096, 4096, by decide +kernel, by decide⟩, by decide⟩
  intro t r n m h
  fin_cases t <;> simp [nearExpiry, withTags, State.tag] at h
  omega

/-- The part with CLK standing still. -/
def stoppedClk : State := { State.reset with clkRuns := false }

theorem witness_ResetsClearThePart : 16 ≤ 16 ∧ 15 < 16 ∧ State.reset.clkRuns = true ∧
    (({ State.reset with inReset := true } : State).inReset = true ∧
      ({ State.reset with inReset := true } : State).clkRuns = true) ∧
    (stoppedClk.clkRuns = false ∧ stoppedClk.inReset = false) ∧
    State.reset.inReset = false ∧ Instr.grant.wellFormed = true ∧ Instr.grant ≠ .powerOnReset ∧
    (∀ n, Instr.grant ≠ .rstN n) ∧ (∀ a b, Instr.grant ≠ .resetRelease a b) := by
  refine ⟨by decide, by decide, by decide, by decide, by decide, by decide, by decide, by decide, ?_, ?_⟩ <;> simp

/-! ## The control link -/

theorem witness_FramesAndCommandsAgree :
    ((Instr.unknownCmd 0xFF (frame [])).wellFormed = true ∧
      frameOfCommand (.unknownCmd 0xFF (frame [])) = some ([0xFF], 0)) ∧
    ((Instr.frameWithoutCompleteByte 7).wellFormed = true ∧
      frameOfCommand (.frameWithoutCompleteByte 7) = some ([], 7)) := by decide

/-- The frame receiver with bits of a byte shifted in and the given bytes complete. -/
def receiving (received : List Byte) (partialBits : List Bool) : ControlLink :=
  { selected := true, bitCount := 8 * received.length + partialBits.length, received, partialBits }

/-- The first seven bits of the byte 0x41. -/
def sevenBits : List Bool := [false, true, false, false, false, false, false]

theorem witness_EveryFrameShiftsOutThePreviousResult :
    State.reset.link.selected = false ∧
    (receiving [] (sevenBits.take 6)).partialBits.length < 7 ∧
    -- the code of a frame, its last byte that is kept, and the first that is not
    (∀ received ∈ [[], [0x41], [0x41, 0, 0, 0], [0x41, 0, 0, 0, 0]], (receiving received sevenBits).selected = true ∧
      (receiving received sevenBits).partialBits.length = 7 ∧
      (∀ j : Fin 8, (sevenBits ++ [true])[j.val]? = some ((0x41 : Byte).getLsbD (7 - j)))) ∧
    frameLength 0x41 = some 5 ∧
    (LinkReady State.reset ∧ (Instr.nop ⟨[0], 7⟩).wellFormed = true ∧
      frameOfCommand (.nop ⟨[0], 7⟩) = some ([0x00, 0], 7) ∧ 6 < 8 ∧
      8 * 2 + 6 < 8 * ([0x00, 0] : List Byte).length + (7 : Fin 8).val) ∧
    (LinkReady State.reset ∧ (Instr.frameWithoutCompleteByte 0).wellFormed = true ∧
      frameOfCommand (.frameWithoutCompleteByte 0) = some ([], 0)) := by decide

theorem witness_FramesRefusedByTheLink :
    (LinkReady State.reset ∧ frameLength 0x10 = some 11 ∧ (frame (List.replicate 9 0)).length < 11) ∧
    (LinkReady State.reset ∧ frameLength 0x42 = none) ∧ frameLength 0x41 = some 5 := by decide

theorem witness_FramesWithoutCommandKeepTheBuffer :
    LinkReady State.reset ∧ (Instr.nop (frame [0])).wellFormed = true ∧
    frameOfCommand (.nop (frame [0])) = some ([0x00, 0], 0) ∧
    ({ State.reset with inReset := true } : State).inReset = true ∧ stoppedClk.clkRuns = false ∧
    (TakesEvents ({ State.reset with link := { csHeldLow := true } } : State) ∧
      ({ State.reset with link := { csHeldLow := true } } : State).link.csHeldLow = true) := by decide

theorem witness_BytesThatAreNotLookedAt :
    (State.reset.link.selected = false ∧ frameLength 0x11 = some 2 ∧ 2 ≤ (frame [7]).length ∧
      2 ≤ (frame [7, 0xFF]).length ∧ (frame [7]).bytes.take 1 = (frame [7, 0xFF]).bytes.take 1) ∧
    (0x41 : Byte) ∈ ([0x00, 0x01, 0x0A, 0x30, 0x31, 0x32, 0x38, 0x40, 0x41] : List Byte) := by decide

theorem witness_BadIndexIsRefused :
    (LinkReady State.reset ∧ frameLength 0x11 = some 2 ∧ 2 ≤ (frame [8]).length ∧
      (0x11 : Byte) ∈ ([0x10, 0x11, 0x12, 0x13, 0x14, 0x15, 0x16, 0x17, 0x18, 0x28, 0x29] : List Byte) ∧
      7 < ((frame [8]).byte 1).toNat) ∧
    (frameLength 0x21 = some 2 ∧ 2 ≤ (frame [16]).length ∧ (0x21 : Byte) ∈ ([0x20, 0x21, 0x22] : List Byte) ∧
      15 < ((frame [16]).byte 1).toNat) := by decide

/-! ## The commands that read -/

theorem witness_NopAndBridgeStatus : LinkReady State.reset ∧ 2 ≤ (frame [0]).length := by decide

theorem witness_GroupStatusReturnsTheRecord : LinkReady State.reset ∧ 2 ≤ (frame [8]).length ∧
    7 < ((frame [8]).byte 1).toNat ∧ 2 ≤ (frame [7]).length ∧ ((frame [7]).byte 1).toNat = (7 : GroupId).val := by decide

theorem witness_ReadCommandsReturnTheirRecords :
    (LinkReady (oneGroup 7 { state := .opened, entries := [e0, e1] }) ∧ 4 ≤ (frame [7, 0, 1]).length ∧
      ((frame [7, 0, 1]).byte 1).toNat = (7 : GroupId).val ∧
      ((oneGroup 7 { state := .opened, entries := [e0, e1] }).group 7).entries[((frame [7, 0, 1]).half 2).toNat]? = some e1) ∧
    (((frame [7, 0, 2]).byte 1).toNat = (7 : GroupId).val ∧ 4 ≤ (frame [7, 0, 2]).length ∧
      ((oneGroup 7 { state := .opened, entries := [e0, e1] }).group 7).entries.length ≤ ((frame [7, 0, 2]).half 2).toNat) ∧
    (2 ≤ (frame [15]).length ∧ ((frame [15]).byte 1).toNat = (15 : Fin 16).val ∧ 15 < ((frame [16]).byte 1).toNat) ∧
    (((frame [7]).byte 1).toNat = (7 : Fin 8).val ∧ 7 < ((frame [8]).byte 1).toNat) := by
  and_intros <;> decide +kernel

/-! ## The group commands -/

/-- GROUP_CONFIG at the low and at the high end of every range, for group 7. -/
def lowConfig : Frame := frame [7, 0, 0, 1, 0, 0, 0, 0, 0, 0]
def highConfig : Frame := frame [7, 1, 4, 0, 1, 0xFF, 1, 255, 255, 1]

theorem witness_GroupConfigReplacesTheConfiguration :
    (LinkReady State.reset ∧ 11 ≤ lowConfig.length ∧ (lowConfig.byte 1).toNat = (7 : GroupId).val ∧
      StagingMode.coalesce.code = lowConfig.byte 2 ∧ 1 = (lowConfig.half 3).toNat ∧
      OverflowPolicy.refuse.code = lowConfig.byte 5 ∧ filterCode (some 0) = lowConfig.byte 6 ∧
      ErrorPolicy.abort.code = lowConfig.byte 7 ∧ 0 = (lowConfig.byte 8).toNat ∧ 0 = (lowConfig.byte 9).toNat ∧
      DeadlineAction.cancel.code = lowConfig.byte 10) ∧
    (11 ≤ highConfig.length ∧ (highConfig.byte 1).toNat = (7 : GroupId).val ∧
      StagingMode.ordered.code = highConfig.byte 2 ∧ 1024 = (highConfig.half 3).toNat ∧
      OverflowPolicy.through.code = highConfig.byte 5 ∧ filterCode none = highConfig.byte 6 ∧
      ErrorPolicy.carryOn.code = highConfig.byte 7 ∧ 255 = (highConfig.byte 8).toNat ∧
      255 = (highConfig.byte 9).toNat ∧ DeadlineAction.force.code = highConfig.byte 10) ∧
    -- the fields that are refused, at the least value refused and for the filter at both ends
    (1 < ((frame [7, 2, 0, 1, 0, 0, 0, 0, 0, 0]).byte 2).toNat ∧
      ((frame [7, 0, 0, 0, 0, 0, 0, 0, 0, 0]).half 3).toNat = 0 ∧
      1024 < ((frame [7, 0, 4, 1, 0, 0, 0, 0, 0, 0]).half 3).toNat ∧
      1 < ((frame [7, 0, 0, 1, 2, 0, 0, 0, 0, 0]).byte 5).toNat ∧
      (15 < ((frame [7, 0, 0, 1, 0, 16, 0, 0, 0, 0]).byte 6).toNat ∧
        ((frame [7, 0, 0, 1, 0, 16, 0, 0, 0, 0]).byte 6).toNat < 255) ∧
      (15 < ((frame [7, 0, 0, 1, 0, 254, 0, 0, 0, 0]).byte 6).toNat ∧
        ((frame [7, 0, 0, 1, 0, 254, 0, 0, 0, 0]).byte 6).toNat < 255) ∧
      1 < ((frame [7, 0, 0, 1, 0, 0, 2, 0, 0, 0]).byte 7).toNat ∧
      1 < ((frame [7, 0, 0, 1, 0, 0, 0, 0, 0, 2]).byte 10).toNat) := by
  and_intros <;> decide +kernel

theorem witness_GroupOpenOpens : 2 ≤ (frame [7]).length ∧ ((frame [7]).byte 1).toNat = (7 : GroupId).val ∧
    (LinkReady State.reset ∧ (State.reset.group 7).state = .idle) ∧
    (LinkReady (oneGroup 7 { state := .closed }) ∧ ((oneGroup 7 { state := .closed }).group 7).state = .closed) ∧
    (LinkReady (oneGroup 7 { state := .faulted }) ∧ ((oneGroup 7 { state := .faulted }).group 7).state ≠ .idle ∧
      ((oneGroup 7 { state := .faulted }).group 7).state ≠ .closed) := by and_intros <;> decide +kernel

/-- Group 7 OPEN with no entry: its check code is 0. -/
def open7 : State := oneGroup 7 { state := .opened }

theorem witness_GroupCloseFixesTheContents : LinkReady open7 ∧ (open7.group 7).state = .opened ∧
    7 ≤ (frame [7, 1, 0, 0, 0, 0]).length ∧ ((frame [7, 1, 0, 0, 0, 0]).byte 1).toNat = (7 : GroupId).val ∧
    (frame [7, 0, 0, 0, 0, 1]).byte 2 = 0x00 ∧
    ((frame [7, 1, 0, 0, 0, 0]).byte 2 = 0x01 ∧ (frame [7, 1, 0, 0, 0, 0]).word 3 = checkCodeOf (open7.group 7).entries) ∧
    ((frame [7, 1, 0, 0, 0, 1]).byte 2 = 0x01 ∧ (frame [7, 1, 0, 0, 0, 1]).word 3 ≠ checkCodeOf (open7.group 7).entries) ∧
    1 < ((frame [7, 2, 0, 0, 0, 0]).byte 2).toNat ∧
    (LinkReady State.reset ∧ (State.reset.group 7).state ≠ .opened ∧ ((frame [7, 1, 0, 0, 0, 0]).byte 2).toNat ≤ 1) := by
  and_intros <;> decide +kernel

/-- Groups 0 and 7 CLOSED and FAULTED, group 6 ARMED on TRIG, group 5 ARMED with AFTER(6), point 7 enabled. -/
def armable : State :=
  ((((oneGroup 0 { state := .closed, checkCode := some 0 }).setGroup 7 { state := .faulted, checkCode := some 0 }).setGroup 6
      { state := .armed, condition := some .trig, checkCode := some 0 }).setGroup 5
      { state := .armed, condition := some (.after 6), checkCode := some 0 }).setPoint 7 { enabled := true }

/-- The chain from group 5 ends at group 6. -/
theorem armable_chain (g : GroupId) (h : Relation.ReflTransGen (IsAfter armable) 5 g) : g = 5 ∨ g = 6 := by
  induction h with
  | refl => exact .inl rfl
  | @tail b c _ step ih =>
    rcases ih with rfl | rfl
    · have : (armable.group 5).condition = some (.after 6) := by decide
      have h : (armable.group 5).condition = some (.after c) := step
      rw [this] at h
      simp only [Option.some.injEq, LaunchCondition.after.injEq] at h
      exact .inr h.symm
    · have : (armable.group 6).condition = some .trig := by decide
      have h : (armable.group 6).condition = some (.after c) := step
      rw [this] at h
      simp at h

theorem witness_GroupArmArms : LinkReady armable ∧ 4 ≤ (frame [7, 2, 7]).length ∧
    ((frame [7, 2, 7]).byte 1).toNat = (7 : GroupId).val ∧
    ((armable.group 0).state = .closed ∧ (armable.group 7).state = .faulted) ∧
    (LaunchCondition.point 7 ≠ .immediate ∧ (LaunchCondition.point 7).code.1 = (frame [7, 2, 7]).byte 2 ∧
      ((frame [7, 2, 7]).byte 3).toNat = (7 : Fin 8).val ∧ (armable.point 7).enabled = true) ∧
    (LaunchCondition.after 5 ≠ .immediate ∧ (LaunchCondition.after 5).code.1 = (frame [7, 5, 5]).byte 2 ∧
      ((frame [7, 5, 5]).byte 3).toNat = (5 : GroupId).val ∧ (armable.group 5).state = .armed ∧
      ¬ Relation.ReflTransGen (IsAfter armable) 5 7) ∧
    (LaunchCondition.soft.code.1 = (frame [0, 4, 0xFF]).byte 2 ∧
      ((frame [0, 4, 0xFF]).byte 1).toNat = (0 : GroupId).val) := by
  refine ⟨by decide, by decide, by decide, by decide, by decide, ⟨by decide, by decide, by decide, by decide, ?_⟩, by decide⟩
  intro h
  rcases armable_chain 7 h with h | h <;> exact absurd h (by decide)

theorem witness_ImmediateAndLaunchQueueTheGroup :
    (LinkReady armable ∧ 4 ≤ (frame [7, 0, 0]).length ∧ ((frame [7, 0, 0]).byte 1).toNat = (7 : GroupId).val ∧
      (armable.group 7).state = .faulted ∧ (frame [7, 0, 0]).byte 2 = 0x00 ∧ armable.engine.state = .idle) ∧
    (LinkReady { armable with engine := busyEngine } ∧ busyEngine.state ≠ .idle) ∧
    (2 ≤ (frame [6]).length ∧ ((frame [6]).byte 1).toNat = (6 : GroupId).val ∧ (armable.group 6).state = .armed) ∧
    (armable.group 7).state ≠ .armed := by and_intros <;> decide +kernel

/-- Group 7 CLOSED, and group 6 ARMED with AFTER(7): an AFTER(6) of group 7 would close a circle. -/
def circle : State := (oneGroup 7 { state := .closed, checkCode := some 0 }).setGroup 6
  { state := .armed, condition := some (.after 7), checkCode := some 0 }

theorem witness_GroupArmRefusals : LinkReady circle ∧ 4 ≤ (frame [7, 6, 0]).length ∧
    ((frame [7, 6, 0]).byte 1).toNat = (7 : GroupId).val ∧
    (5 < ((frame [7, 6, 0]).byte 2).toNat ∧
      ((frame [7, 2, 8]).byte 2 = 0x02 ∧ 7 < ((frame [7, 2, 8]).byte 3).toNat) ∧
      ((frame [7, 5, 8]).byte 2 = 0x05 ∧ 7 < ((frame [7, 5, 8]).byte 3).toNat)) ∧
    (LinkReady State.reset ∧ (State.reset.group 7).state ≠ .closed ∧ (State.reset.group 7).state ≠ .faulted ∧
      ((frame [7, 5, 7]).byte 2).toNat ≤ 5 ∧ ((frame [7, 5, 7]).byte 3).toNat ≤ 7) ∧
    ((circle.group 7).state = .closed ∧ (frame [7, 2, 7]).byte 2 = 0x02 ∧
      ((frame [7, 2, 7]).byte 3).toNat = (7 : Fin 8).val ∧ (circle.point 7).enabled = false) ∧
    ((frame [7, 5, 7]).byte 2 = 0x05 ∧ ((frame [7, 5, 7]).byte 3).toNat = (7 : GroupId).val) ∧
    (((frame [7, 5, 0]).byte 3).toNat = (0 : GroupId).val ∧ (circle.group 0).state ≠ .armed ∧
      (circle.group 0).state ≠ .pending ∧ (circle.group 0).state ≠ .releasing) ∧
    (((frame [7, 5, 6]).byte 3).toNat = (6 : GroupId).val ∧ Relation.TransGen (IsAfter circle) 6 7) := by
  and_intros
  all_goals first | decide +kernel | exact .single (by decide)

/-- Group 7 in the given state, with no successor. -/
def alone (state : GroupState) : State := oneGroup 7 { state, condition := some .trig, checkCode := some 0, entries := [e0] }

theorem witness_GroupDisarmWithdraws : 2 ≤ (frame [7]).length ∧ ((frame [7]).byte 1).toNat = (7 : GroupId).val ∧
    (LinkReady (alone .armed) ∧ NoSuccessor (alone .armed) 7 ∧ ((alone .armed).group 7).state = .armed) ∧
    (LinkReady { alone .pending with launchQueue := [7] } ∧ NoSuccessor { alone .pending with launchQueue := [7] } 7 ∧
      ((alone .pending).group 7).state = .pending) ∧
    (LinkReady State.reset ∧ (State.reset.group 7).state ≠ .armed ∧ (State.reset.group 7).state ≠ .pending) := by
  and_intros <;> decide +kernel

theorem witness_GroupDiscardEmpties : 2 ≤ (frame [7]).length ∧ ((frame [7]).byte 1).toNat = (7 : GroupId).val ∧
    (LinkReady State.reset ∧ (State.reset.group 7).state = .idle) ∧
    (LinkReady (alone .opened) ∧ ((alone .opened).group 7).state = .opened ∧ ((alone .closed).group 7).state = .closed ∧
      ((alone .faulted).group 7).state = .faulted) ∧
    (LinkReady (alone .armed) ∧ NoSuccessor (alone .armed) 7 ∧ ((alone .armed).group 7).state = .armed) ∧
    (LinkReady (alone .pending) ∧ NoSuccessor (alone .pending) 7 ∧ ((alone .pending).group 7).state = .pending) := by
  and_intros <;> decide +kernel

/-- The chain of group 6 and its successor group 5 in `armable` is broken by either command. -/
theorem witness_BreakingIsTransitive : LinkReady armable ∧ 2 ≤ (frame [6]).length ∧
    ((frame [6]).byte 1).toNat = (6 : GroupId).val ∧ (armable.group 6).state = .armed ∧ IsSuccessor armable 5 6 ∧
    (LinkReady (alone .pending) ∧ ((frame [7]).byte 1).toNat = (7 : GroupId).val ∧
      ((alone .pending).group 7).state = .pending) := by and_intros <;> decide +kernel

/-- Group 7 in SETTLING, group 6 ARMED with AFTER(7), and group 5 PENDING. -/
def discardGoesOn : State :=
  { ((releasing7 { entries := [e0] } { state := .settling }).setGroup 6
      { state := .armed, condition := some (.after 7), checkCode := some 0 }).setGroup 5
      { state := .pending, condition := some .trig, checkCode := some 0, entries := [e1] } with launchQueue := [5] }

theorem witness_GroupDiscardStopsTheRelease : 2 ≤ (frame [7]).length ∧ ((frame [7]).byte 1).toNat = (7 : GroupId).val ∧
    (∀ e ∈ ([{ state := .draining, write := .issued, copy := some e0 },
        { state := .stopping, write := .issued, copy := some e0, cause := some .discard }, { state := .settling },
        { state := .draining, write := .requested, copy := some e0 }] : List Engine),
      LinkReady (releasing7 { entries := [e0] } e) ∧ ((releasing7 { entries := [e0] } e).group 7).state = .releasing ∧
      (releasing7 { entries := [e0] } e).engine.group = some 7 ∧ NoSuccessor (releasing7 { entries := [e0] } e) 7 ∧
      (releasing7 { entries := [e0] } e).launchQueue = [] ∧ (releasing7 { entries := [e0] } e).port.waiting = []) ∧
    -- a discard that breaks a successor and goes on to the next group
    (LinkReady discardGoesOn ∧ (discardGoesOn.group 7).state = .releasing ∧ discardGoesOn.engine.group = some 7 ∧
      discardGoesOn.engine.state = .settling ∧ IsSuccessor discardGoesOn 6 7 ∧ discardGoesOn.launchQueue = [5]) := by
  and_intros <;> decide +kernel

/-! ## The commands for windows, points, the timebase, the memory port, the queue and the interrupt line -/

/-- WINDOW_SET of window 15 with the lowest and the highest fields. -/
def lowWindow : Frame := frame [15, 0, 0, 0, 0, 0, 0, 0, 0, 0, 0, 0]
def highWindow : Frame := frame [15, 0xFF, 0xFF, 0xFF, 0xC0, 0xFF, 0xFF, 0xFF, 0xC0, 7, 1, 1]

/-- Window 15 names the RELEASING group 7. -/
def windowBusy : State := (oneGroup 7 { state := .releasing }).setWindow 15 ⟨true, 0, 0, 7, .pass, .pass⟩

theorem witness_WindowCommandsWriteTheTable : LinkReady State.reset ∧ LinkReady windowBusy ∧
    (15 < ((frame (16 :: List.replicate 11 0)).byte 1).toNat ∧ 13 ≤ (frame (16 :: List.replicate 11 0)).length) ∧
    (13 ≤ lowWindow.length ∧ (lowWindow.byte 1).toNat = (15 : Fin 16).val ∧ (0 : Word) = lowWindow.word 2 ∧
      (0 : Word) = lowWindow.word 6 ∧ (0 : GroupId).val = (lowWindow.byte 10).toNat ∧
      MissPolicy.pass.code = lowWindow.byte 11 ∧ ReadPolicy.pass.code = lowWindow.byte 12) ∧
    (13 ≤ highWindow.length ∧ (highWindow.byte 1).toNat = (15 : Fin 16).val ∧ (0xFFFFFFC0 : Word) = highWindow.word 2 ∧
      (0xFFFFFFC0 : Word) = highWindow.word 6 ∧ (0xFFFFFFC0 : Word).toNat % 64 = 0 ∧
      (7 : GroupId).val = (highWindow.byte 10).toNat ∧ MissPolicy.refuse.code = highWindow.byte 11 ∧
      ReadPolicy.merge.code = highWindow.byte 12) ∧
    ((windowBusy.window 15).valid = true ∧ (windowBusy.group (windowBusy.window 15).group).state = .releasing) ∧
    ((State.reset.window 15).valid = false ∧
      ((State.reset.setWindow 15 ⟨true, 0, 0, 7, .pass, .pass⟩).window 15).valid = true) ∧
    -- the fields that are refused
    (((frame [15, 0, 0, 0, 1, 0, 0, 0, 64, 0, 0, 0]).word 2).toNat % 64 ≠ 0 ∧
      ((frame [15, 0, 0, 0, 0, 0, 0, 0, 63, 0, 0, 0]).word 6).toNat % 64 ≠ 0 ∧
      ((frame [15, 0, 0, 0, 64, 0, 0, 0, 0, 0, 0, 0]).word 6).toNat <
        ((frame [15, 0, 0, 0, 64, 0, 0, 0, 0, 0, 0, 0]).word 2).toNat ∧
      7 < ((frame [15, 0, 0, 0, 0, 0, 0, 0, 0, 8, 0, 0]).byte 10).toNat ∧
      1 < ((frame [15, 0, 0, 0, 0, 0, 0, 0, 0, 0, 2, 0]).byte 11).toNat ∧
      1 < ((frame [15, 0, 0, 0, 0, 0, 0, 0, 0, 0, 0, 2]).byte 12).toNat) := by and_intros <;> decide +kernel

theorem witness_PointSetWritesThePoint : LinkReady State.reset ∧
    10 ≤ (frame [7, 1, 0xFF, 0xFF, 0, 0, 1, 0x0F, 0xFF]).length ∧
    ((frame [7, 1, 0xFF, 0xFF, 0, 0, 1, 0x0F, 0xFF]).byte 1).toNat = (7 : Fin 8).val ∧
    yesNo true = (frame [7, 1, 0xFF, 0xFF, 0, 0, 1, 0x0F, 0xFF]).byte 2 ∧
    (0xFFFF : Half) = (frame [7, 1, 0xFF, 0xFF, 0, 0, 1, 0x0F, 0xFF]).half 3 ∧
    (0 : Half) = (frame [7, 1, 0xFF, 0xFF, 0, 0, 1, 0x0F, 0xFF]).half 5 ∧
    yesNo true = (frame [7, 1, 0xFF, 0xFF, 0, 0, 1, 0x0F, 0xFF]).byte 7 ∧
    4095 = ((frame [7, 1, 0xFF, 0xFF, 0, 0, 1, 0x0F, 0xFF]).half 8).toNat ∧
    (1 < ((frame [7, 2, 0, 0, 0, 0, 0, 0, 0]).byte 2).toNat ∧ 1 < ((frame [7, 0, 0, 0, 0, 0, 2, 0, 0]).byte 7).toNat ∧
      4095 < ((frame [7, 0, 0, 0, 0, 0, 0, 0x10, 0]).half 8).toNat) := by and_intros <;> decide +kernel

theorem witness_TimebaseAndPortCommandsWriteTheirValues : LinkReady State.reset ∧
    (9 ≤ (frame [0, 1, 0, 16, 0, 2, 0, 255]).length ∧ TimebaseMode.external.code = (frame [0, 1, 0, 16, 0, 2, 0, 255]).byte 2 ∧
      ((frame [0, 1, 0, 16, 0, 2, 0, 255]).half 3).toNat = 16 ∧ ((frame [0, 1, 0, 16, 0, 2, 0, 255]).half 5).toNat = 2 ∧
      ((frame [0, 1, 0, 16, 0, 2, 0, 255]).half 7).toNat = 255) ∧
    (TimebaseMode.internal.code = (frame [0, 0, 255, 255, 16, 0, 0, 0]).byte 2 ∧
      ((frame [0, 0, 255, 255, 16, 0, 0, 0]).half 5).toNat = 4096) ∧
    (1 < ((frame [0, 2, 0, 16, 0, 2, 0, 0]).byte 2).toNat ∧ ((frame [0, 0, 0, 15, 0, 2, 0, 0]).half 3).toNat < 16 ∧
      ((frame [0, 0, 0, 16, 0, 1, 0, 0]).half 5).toNat < 2 ∧ 4096 < ((frame [0, 0, 0, 16, 16, 1, 0, 0]).half 5).toNat ∧
      255 < ((frame [0, 0, 0, 16, 0, 2, 1, 0]).half 7).toNat) ∧
    (4 ≤ (frame [0, 1, 0]).length ∧ 256 ≤ ((frame [0, 1, 0]).half 2).toNat ∧
      ((frame [0, 0, 255]).half 2).toNat < 256) := by and_intros <;> decide +kernel

/-- A completion queue of one urgent record. -/
def oneUrgent : State :=
  { State.reset with completions := ⟨[⟨.syncLost, none, none, 0, 0, {}, 0⟩], 0, 1⟩, irqLow := true }

theorem witness_QueueCommandsFollowTheRecords : LinkReady oneUrgent ∧ 2 ≤ (frame [0]).length ∧
    oneUrgent.completions.records = ⟨.syncLost, none, none, 0, 0, {}, 0⟩ :: [] ∧
    (LinkReady State.reset ∧ State.reset.completions.records = []) ∧
    (5 ≤ (frame [0, 1, 1, 0]).length ∧ yesNo true = (frame [0, 1, 1, 0]).byte 2 ∧ 1 = ((frame [0, 1, 1, 0]).byte 3).toNat ∧
      yesNo false = (frame [0, 1, 1, 0]).byte 4 ∧ 32 = ((frame [0, 0, 32, 1]).byte 3).toNat) ∧
    (1 < ((frame [0, 2, 1, 0]).byte 2).toNat ∧ ((frame [0, 1, 0, 0]).byte 3).toNat = 0 ∧
      32 < ((frame [0, 1, 33, 0]).byte 3).toNat ∧ 1 < ((frame [0, 1, 1, 2]).byte 4).toNat) := by
  and_intros <;> decide +kernel

theorem witness_SoftResetEmptiesTheStagingSide : LinkReady trafficDraining ∧ 2 ≤ (frame [0]).length ∧
    1 ≤ trafficDraining.irq.threshold := by decide +kernel

/-! ## The system port -/

/-- Eight places taken, of which the oldest is complete and the others WAITING. -/
def fullIngress : State :=
  { State.reset with
    nextId := 8
    ingress := { waitingRead 0 0 with dispatched := true, results := [.finished .okay 5] } ::
      (List.range 7).map fun k => waitingRead (k + 1) 0 }

theorem witness_TransactionsEnterAndLeaveInOrder :
    (TakesEvents State.reset ∧ (⟨15, 0xFFFFFFFC, .write (List.replicate 16 ⟨0, 0⟩)⟩ : Transaction).wellFormed = true ∧
      ({ fullIngress with ingress := fullIngress.ingress.drop 1 } : State).ingress.length = 7) ∧
    (TakesEvents fullIngress ∧ 8 ≤ fullIngress.ingress.length) ∧
    ((⟨0, 2, .read 1⟩ : Transaction).start.toNat % 4 ≠ 0 ∧ (⟨0, 0, .read 0⟩ : Transaction).beatCount = 0 ∧
      16 < (⟨0, 0, .read 17⟩ : Transaction).beatCount) ∧
    (∃ u rest, fullIngress.ingress = u :: rest ∧ u.dispatched = true ∧ ∀ b ∈ u.results, b ≠ .outstanding) ∧
    (∀ u rest, State.reset.ingress = u :: rest → u.dispatched = false ∨ .outstanding ∈ u.results) := by
  refine ⟨by decide +kernel, by decide +kernel, by decide, ⟨_, _, rfl, by decide +kernel, by decide +kernel⟩, ?_⟩
  intro u rest h
  exact absurd h (by simp [State.reset])

/-- Windows 3 and 5 both cover 0x40 to 0x7F, and window 1 covers it but is not valid. -/
def overlapping : State :=
  ((State.reset.setWindow 1 ⟨false, 0x40, 0x40, 0, .pass, .pass⟩).setWindow 3 ⟨true, 0x40, 0x40, 1, .pass, .pass⟩).setWindow 5
    ⟨true, 0x40, 0x40, 2, .pass, .pass⟩

theorem witness_LowestValidWindowGoverns : Governs overlapping 0x40 3 ∧ Governs overlapping 0x7F 3 ∧
    NotGoverned overlapping 0x3F ∧ NotGoverned overlapping 0x80 := by and_intros <;> decide +kernel

/-- The transaction of the example of 03 as the head, behind one that is DISPATCHED. -/
def burst (start : Word) : Ingress :=
  { id := 1, request := ⟨3, start, .write [⟨0xA0A0A0A0, 0xF⟩, ⟨0, 0⟩, ⟨0x0000BBBB, 0x3⟩, ⟨0xCCCCCCCC, 0xF⟩]⟩ }
def judged : Ingress := { waitingRead 0 0 with dispatched := true, results := [.outstanding] }
def judging (start : Word) : State := { twoWindows with ingress := [judged, burst start], nextId := 2 }

/-- The group of window 4 RELEASING. -/
def judgingFenced (start : Word) : State := (judging start).setGroup 5 { state := .releasing, condition := some .trig }

theorem witness_JudgementChecksBoundaryThenFence :
    (TakesEvents State.reset ∧ ∀ u ∈ State.reset.ingress, u.dispatched = true) ∧
    (({ judgingFenced 0x000400F8 with fencedOn := some 5 } : State).fencedOn ≠ none) ∧
    (IsHead (judging 0x000403F4) (burst 0x000403F4) [judged] [] ∧ ¬ InOneBlock (burst 0x000403F4).request ∧
      TakesEvents (judging 0x000403F4) ∧ (judging 0x000403F4).fencedOn = none) ∧
    (IsHead (judgingFenced 0x000400F8) (burst 0x000400F8) [judged] [] ∧ InOneBlock (burst 0x000400F8).request ∧
      Fenced (judgingFenced 0x000400F8) (burst 0x000400F8).request ∧ TakesEvents (judgingFenced 0x000400F8) ∧
      (judgingFenced 0x000400F8).fencedOn = none) := by and_intros <;> decide +kernel

theorem witness_JudgementDecidesEveryBeatInOrder : TakesEvents (judging 0x000403F0) ∧
    (judging 0x000403F0).fencedOn = none ∧ IsHead (judging 0x000403F0) (burst 0x000403F0) [judged] [] ∧
    InOneBlock (burst 0x000403F0).request ∧ ¬ Fenced (judging 0x000403F0) (burst 0x000403F0).request := by
  and_intros <;> decide +kernel

/-- R70: a head that passes both tests while the write of an engine that drains is out, whose response may come between the
two beats, as it ends no release. -/
theorem witness_RoomFreedBetweenBeats : TakesEvents roomLater ∧ roomLater.fencedOn = none ∧
    IsHead roomLater roomHead [] [] ∧ InOneBlock roomHead.request ∧ ¬ Fenced roomLater roomHead.request ∧
    (¬ ∀ v : TagId, roomLater.tag v = .free) ∧ ¬ Barred roomLater (.response 0 .okay 0) := by
  refine ⟨by decide +kernel, rfl, by decide +kernel, by decide +kernel, by decide +kernel, by decide +kernel, ?_⟩
  rw [← barredBetweenBeats_iff]
  decide +kernel

/-- One write beat at 0x40, and window 3 over it with the given policies, group 7. -/
def beat40 : Transaction := ⟨3, 0x40, .write [⟨0x11223344, 0xF⟩]⟩
def over40 (r : GroupRecord) (miss : MissPolicy) (read : ReadPolicy) : State :=
  (oneGroup 7 r).setWindow 3 ⟨true, 0x40, 0x40, 7, miss, read⟩
def entry40 : Entry := ⟨0x40, 0, 0x1⟩

theorem witness_WriteBeatsThatMiss : (⟨0, 0⟩ : WriteBeat).mask = 0 ∧
    ((⟨0, 1⟩ : WriteBeat).mask ≠ 0 ∧ NotGoverned State.reset (beatAt beat40 0)) ∧
    -- not OPEN; turned away by the filter
    (Governs (over40 {} .refuse .pass) (beatAt beat40 0) 3 ∧ ((over40 {} .refuse .pass).group 7).state ≠ .opened ∧
      ((over40 {} .refuse .pass).window 3).miss = .refuse ∧ ((over40 {} .refuse .pass).window 3).group = 7) ∧
    ¬ PassesFilter { filter := some 2 } beat40.requester ∧
    (∀ st ∈ [GroupState.closed, .armed, .pending, .faulted],
      Governs (over40 { state := st, entries := [entry40] } .pass .pass) (beatAt beat40 0) 3 ∧
      ((over40 { state := st, entries := [entry40] } .pass .pass).group 7).state = st ∧
      ((over40 { state := st, entries := [entry40] } .pass .pass).window 3).miss = .pass ∧
      ∃ e ∈ ((over40 { state := st, entries := [entry40] } .pass .pass).group 7).entries, e.address = beatAt beat40 0) ∧
    (((over40 {} .pass .pass).group 7).state = .idle ∧
      ∀ e ∈ ((over40 { state := .closed, entries := [e0] } .pass .pass).group 7).entries, e.address ≠ beatAt beat40 0) := by
  and_intros <;> decide +kernel

/-- The OPEN group 7 with cap 2 and the given entries. -/
def opened40 (mode : StagingMode) (overflow : OverflowPolicy) (es : List Entry) : State :=
  over40 { config := { mode, cap := 2, overflow, filter := some 3 }, state := .opened, entries := es } .pass .pass

theorem witness_WriteBeatsThatAreCaptured : 3 < 4 ∧
    (∀ mode ∈ [StagingMode.coalesce, .ordered], ∀ overflow ∈ [OverflowPolicy.refuse, .through],
      ∀ es ∈ [[], [e0], [e0, entry40], [e0, e1]],
      Governs (opened40 mode overflow es) (beatAt beat40 0) 3 ∧ ((opened40 mode overflow es).window 3).group = 7 ∧
      ((opened40 mode overflow es).group 7).state = .opened ∧
      PassesFilter ((opened40 mode overflow es).group 7).config beat40.requester ∧
      ((opened40 mode overflow es).group 7).config.overflow = overflow) ∧
    -- a merge behind another entry, room for the last entry, and no room by the cap or by the pool
    (((opened40 .coalesce .refuse [e0, entry40]).group 7).entries = [e0] ++ entry40 :: [] ∧
      entry40.address = beatAt beat40 0 ∧ ∀ x ∈ [e0], x.address ≠ beatAt beat40 0) ∧
    ((∀ e ∈ ((opened40 .coalesce .refuse [e0]).group 7).entries, e.address ≠ beatAt beat40 0) ∧
      ((opened40 .coalesce .refuse [e0]).group 7).entries.length < ((opened40 .coalesce .refuse [e0]).group 7).config.cap ∧
      0 < ({ opened40 .coalesce .refuse [e0] with free := 1 } : State).free) ∧
    (((opened40 .ordered .through [e0, e1]).group 7).config.mode = .ordered ∧
      ((opened40 .ordered .through [e0, e1]).group 7).config.cap ≤
        ((opened40 .ordered .through [e0, e1]).group 7).entries.length ∧
      ({ opened40 .ordered .through [e0] with free := 0 } : State).free = 0) := by and_intros <;> decide +kernel

theorem witness_ReadBeatsAreMerged : 3 < 4 ∧ NotGoverned State.reset (beatAt beat40 0) ∧
    (∀ es ∈ [[], [entry40], [entry40, ⟨0x40, 0, 0xE⟩]],
      Governs (over40 { state := .closed, entries := es } .pass .merge) (beatAt beat40 0) 3 ∧
      ((over40 { state := .closed, entries := es } .pass .merge).window 3).read = .merge ∧
      ((over40 { state := .closed, entries := es } .pass .merge).window 3).group = 7 ∧
      ((over40 { state := .closed, entries := es } .pass .merge).group 7).state = .closed ∧
      ((over40 { state := .closed, entries := es } .pass .merge).group 7).entries.filter
        (fun e => e.address = beatAt beat40 0) = es) ∧
    (overlayOf [entry40, ⟨0x40, 0, 0xE⟩]).mask = 0xF ∧ (overlayOf [entry40]).mask ≠ 0xF ∧
    ((over40 {} .pass .pass).window 3).read = .pass ∧ ((over40 {} .pass .merge).group 7).state = .idle := by
  and_intros <;> decide +kernel

/-! ## The memory port -/

/-- No tag FREE. -/
def noFree : Vector TagState 4 := #v[.abandoned, busyPass 1 none, busyPass 2 (some 3), .abandoned]
/-- Tag 3 alone FREE. -/
def lastFree : Vector TagState 4 := #v[.abandoned, .abandoned, busyPass 2 none, .free]
/-- The release side waits with E0. -/
def asking : Engine := ⟨.draining, some 4, some .oneShot, 0, 0, 0, .requested, some e0, none⟩

theorem witness_TagsAreGrantedByTheArbiter :
    NoFreeTag (withTags noFree State.reset).port ∧ TakesEvents (withTags noFree State.reset) ∧
    (IsLowestFree (withTags lastFree State.reset).port 3 ∧ (withTags lastFree State.reset).port.waiting = [] ∧
      (withTags lastFree State.reset).engine.write ≠ .requested ∧ TakesEvents (withTags lastFree State.reset)) ∧
    (({ tags := lastFree, waiting := [pass 6 none] } : MemoryPort).waiting = pass 6 none :: [] ∧
      IsLowestFree { tags := lastFree, waiting := [pass 6 none] } 3) ∧
    (asking.write = .requested ∧ asking.copy = some e0 ∧ IsLowestFree { lastGranted := .release } 0 ∧
      IsLowestFree { lastGranted := .passThrough } 0) := by and_intros <;> decide +kernel

/-- R98, R100, R101: a response and a timeout, as the ways in which the request of tag 0 ends. -/
theorem witness_EndsRequestIn (s : State) :
    EndsRequestIn s (.response 0 .okay 7) 0 .okay 7 s (fun u => withTag u 0 .free) ∧
    EndsRequestIn s (.response 0 .error 0) 0 .error 0 s (fun u => withTag u 0 .free) ∧
    EndsRequestIn s (.responseTimeout 0) 0 .error 0 (timedOut s 0) id :=
  ⟨.inl ⟨rfl, rfl, rfl⟩, .inl ⟨rfl, rfl, rfl⟩, .inr ⟨rfl, rfl, rfl, rfl⟩⟩

/-- Group 4 in SETTLING, with its last marked request on tag 0. -/
def settlingOn (entries : List Entry) (tags : Vector TagState 4) : State :=
  { trafficSettling.setGroup 4 { trafficSettling.group 4 with entries } with
    port := { trafficSettling.port with tags } }

/-- A release of group 4 that is STUCK with E0 REQUESTED, and one whose requests wait with tags BUSY and ABANDONED. -/
theorem witness_LateResponses :
    (∀ tags ∈ [Vector.replicate 4 .abandoned, noFree],
      TakesEvents ({ trafficDraining with engine := asking, port := { tags, waiting := [pass 6 none] } } : State) ∧
      ({ trafficDraining with engine := asking, port := { tags, waiting := [pass 6 none] } } : State).tag 0 = .abandoned) ∧
    asking.write = .requested := by and_intros <;> decide +kernel

/-- The tags with the last marked request, and others unmarked, and with all others ABANDONED. -/
def lastMarked : Vector TagState 4 := #v[busyPass 1 (some 4), .free, busyPass 3 none, .free]
def lastMarkedStuck : Vector TagState 4 := #v[busyPass 1 (some 4), .abandoned, .abandoned, .abandoned]

theorem witness_EndOfPassThroughEndsSettling :
    (∀ tags ∈ [lastMarked, lastMarkedStuck], ∀ es ∈ [[e0], []], TakesEvents (settlingOn es tags) ∧
      (settlingOn es tags).tag 0 = .busy (.passThrough (pass 1 (some 4))) 0 4096 ∧
      ∀ pre ∈ [settlingOn es tags, timedOut (settlingOn es tags) 0],
        (passEnded pre (pass 1 (some 4)) (passResult (pass 1 (some 4)) .error 0)).engine.state = .settling ∧
        (passEnded pre (pass 1 (some 4)) (passResult (pass 1 (some 4)) .error 0)).engine.group = some 4 ∧
        (passEnded pre (pass 1 (some 4)) (passResult (pass 1 (some 4)) .error 0)).settleCount 4 = 0) ∧
    StandsAt (passEnded (settlingOn [e0] lastMarked) (pass 1 (some 4)) (.finished .okay 0)) 4 e0 ∧
    WalkedToEnd (passEnded (settlingOn [] lastMarked) (pass 1 (some 4)) (.finished .okay 0)) 4 ∧
    -- a request that leaves the settle count above 0
    (passEnded trafficSettling (pass 3 none) (.finished .okay 0)).settleCount 4 ≠ 0 ∧
    trafficSettling.tag 2 = .busy (.passThrough (pass 3 none)) 0 4096 := by and_intros <;> decide +kernel

theorem witness_PassThroughRequestsEndOrStick :
    (TakesEvents (withTags lastFree State.reset) ∧
      (withTags lastFree State.reset).tag 2 = .busy (.passThrough (pass 2 none)) 0 4096 ∧
      (withTags lastFree State.reset).port.waiting = [] ∧ (withTags lastFree State.reset).engine.write ≠ .requested ∧
      (withTags lastFree State.reset).engine.state ≠ .settling ∧ (3 : TagId) ≠ 2 ∧
      (withTags lastFree State.reset).tag 3 ≠ .abandoned ∧ (withTags lastFree State.reset).tag 0 = .abandoned ∧
      (withTags lastFree State.reset).tag 3 = .free) ∧
    ((withTags #v[.abandoned, .abandoned, .abandoned, busyPass 1 none] State.reset).tag 3 =
        .busy (.passThrough (pass 1 none)) 0 4096 ∧
      ∀ u : TagId, u ≠ 3 → (withTags #v[.abandoned, .abandoned, .abandoned, busyPass 1 none] State.reset).tag u = .abandoned) ∧
    (∀ u : TagId, ({ State.reset with port := { tags := Vector.replicate 4 .abandoned, waiting := [pass 6 none] } } : State).tag u =
      .abandoned) := by and_intros <;> decide +kernel

/-! ## The release engine -/

/-- The part of 04 with the settle count of group 4 at 0. -/
def noTraffic (tags : Vector TagState 4) : State := { trafficStart with port := { tags } }

theorem witness_TakingStartsTheRelease :
    (TakesEvents State.reset ∧ State.reset.launchQueue = [] ∧ trafficDraining.engine.state ≠ .idle) ∧
    (TakesEvents trafficStart ∧ trafficStart.engine.state = .idle ∧ trafficStart.launchQueue = 4 :: [] ∧
      trafficStart.settleCount 4 ≠ 0 ∧ trafficStart.port.waiting = []) ∧
    (TakesEvents (noTraffic noFree) ∧ (noTraffic noFree).engine.state = .idle ∧ (noTraffic noFree).launchQueue = [4] ∧
      (noTraffic noFree).settleCount 4 = 0 ∧ ((noTraffic noFree).group 4).entries = e0 :: [e1, e2] ∧
      NoFreeTag (noTraffic noFree).port) ∧
    (IsLowestFree (noTraffic lastFree).port 3 ∧ (noTraffic lastFree).port.waiting = [] ∧
      (noTraffic lastFree).settleCount 4 = 0) ∧
    (trafficSettling.engine.state = .settling ∧ ∀ g, trafficSettling.engine.group = some g → trafficSettling.settleCount g ≠ 0) ∧
    (∀ tags ∈ [noFree, lastFree], ∀ kind ∈ [ReleaseKind.oneShot, .repeating],
      TakesEvents ({ trafficSettling with port := { tags }, engine := { trafficSettling.engine with kind } } : State) ∧
      ({ trafficSettling with port := { tags }, engine := { trafficSettling.engine with kind } } : State).settleCount 4 = 0) ∧
    (trafficSettling.engine.group = some 4 ∧ trafficSettling.engine.kind = some .oneShot ∧
      (trafficSettling.group 4).entries[0]? = some e0 ∧
      (trafficSettling.group 4).entries[trafficSettling.engine.cursor]? = some e0) := by and_intros <;> decide +kernel

/-- A walked list: group 7 with no entry left, or with its cursor past the last of two entries. -/
def walkedOneShot : State := releasing7 {} { state := .draining, written := 2 }
def walkedRepeating : State :=
  { oneGroup 7 { state := .releasing, condition := some .trig, checkCode := some 0, repeatsRemaining := 1
                 entries := [e0, e1] } with
    free := 1022, engine := ⟨.draining, some 7, some .repeating, 2, 0, 2, .none, none, none⟩ }
/-- Group 7 PENDING with an empty list, and group 6 behind it. -/
def emptyHead : State :=
  { oneGroup 7 { state := .pending, condition := some .trig, checkCode := some 0 } with launchQueue := [7, 6] }

theorem witness_ReleaseCompletes :
    (∀ s ∈ [walkedOneShot, walkedRepeating], TakesEvents s ∧ s.engine.state = .draining ∧ s.engine.write = .none ∧
      s.engine.group = some 7 ∧ FiresNothing s 7 ∧ s.launchQueue = [] ∧ s.port.waiting = []) ∧
    (walkedOneShot.engine.kind = some .oneShot ∧ (walkedOneShot.group 7).entries = []) ∧
    (walkedRepeating.engine.kind = some .repeating ∧
      (walkedRepeating.group 7).entries.length ≤ walkedRepeating.engine.cursor) ∧
    (TakesEvents emptyHead ∧ emptyHead.engine.state = .idle ∧ emptyHead.launchQueue = 7 :: [6] ∧
      emptyHead.settleCount 7 = 0 ∧ (emptyHead.group 7).entries = [] ∧ FiresNothing emptyHead 7 ∧
      emptyHead.port.waiting = []) ∧
    (TakesEvents trafficDraining ∧ trafficDraining.nextEntry ≠ none ∧ trafficDraining.engine.write ≠ .none ∧
      State.reset.engine.state ≠ .draining) := by and_intros <;> decide +kernel

/-- Group 4 with its last write ISSUED, group 5 ARMED with AFTER(4), group 6 PENDING, and a head that waits. -/
def lastWrite (kind : ReleaseKind) : State :=
  { (((oneGroup 4 { config := { errorPolicy := .carryOn }, state := .releasing, condition := some .trig
                    checkCode := some 0, entries := [e0] }).setGroup 5
      { state := .armed, condition := some (.after 4), checkCode := some 0 }).setGroup 6
      { state := .pending, condition := some .trig, checkCode := some 0, entries := [e1] }) with
    launchQueue := [6], ingress := [{ id := 0, request := ⟨1, 0x40, .read 1⟩, dispatched := false, results := [] }]
    engine := ⟨.draining, some 4, some kind, 0, 0, 0, .issued, some e0, none⟩
    port := { tags := #v[.busy (.release e0) 0 4096, .abandoned, busyPass 3 none, busyPass 5 none] } }

theorem witness_CompletionGoesOn :
    (∀ kind ∈ [ReleaseKind.oneShot, .repeating], TakesEvents (lastWrite kind) ∧
      (lastWrite kind).tag 0 = .busy (.release e0) 0 4096 ∧ (lastWrite kind).engine.state = .draining ∧
      (lastWrite kind).engine.group = some 4 ∧ ((lastWrite kind).group 4).config.errorPolicy = .carryOn ∧
      ((lastWrite kind).group 4).entries = [e0] ∧ (lastWrite kind).engine.kind = some kind ∧
      ((lastWrite kind).group 4).entries.length ≤ (lastWrite kind).engine.cursor + 1 ∧
      ¬ FiresNothing (lastWrite kind) 4 ∧ (lastWrite kind).launchQueue ≠ [] ∧
      ∃ v ∈ (lastWrite kind).ingress, v.dispatched = false) ∧
    (WalkedToEnd walkedOneShot 7 ∧ WalkedToEnd walkedRepeating 7) := by and_intros <;> decide +kernel

theorem witness_CompletionFiresTheSuccessors : (armable.group 6).condition ≠ some (.after 6) ∧
    (5 : GroupId) ≠ 6 ∧ (armable.group 5).condition = some (.after 6) := by decide +kernel

/-- A repeating release of group 4 whose write of entry 1 of three is issued. -/
def drainingRepeating : State :=
  { trafficDraining with engine := ⟨.draining, some 4, some .repeating, 1, 0, 1, .issued, some e1, none⟩
                         port := { tags := #v[.busy (.release e1) 0 4096, .abandoned, .abandoned, busyPass 3 none] } }
/-- A one-shot release of group 4 with no request waiting. -/
def drainingOneShot : State :=
  { trafficDraining with port := { tags := #v[.busy (.release e0) 0 4096, .abandoned, .abandoned, busyPass 3 none] } }

theorem witness_ReleaseWalksOn :
    EndsRequest (.response 0 .okay 0) 0 .okay .free ∧ EndsRequest (.responseTimeout 0) 0 .error .abandoned ∧
    (∀ s ∈ [drainingRepeating, drainingOneShot], TakesEvents s ∧ s.engine.state = .draining ∧ s.engine.group = some 4 ∧
      ((3 : TagId) ≠ 0 ∧ s.tag 3 ≠ .abandoned) ∧ IsLowestFree (withTag s 0 .free).port 0 ∧ s.port.waiting = [] ∧
      NoFreeTag (withTag s 0 .abandoned).port) ∧
    (drainingOneShot.tag 0 = .busy (.release e0) 0 4096 ∧ drainingOneShot.engine.kind = some .oneShot ∧
      (drainingOneShot.group 4).entries = e0 :: e1 :: [e2]) ∧
    (drainingRepeating.tag 0 = .busy (.release e1) 0 4096 ∧ drainingRepeating.engine.kind = some .repeating ∧
      (drainingRepeating.group 4).entries[drainingRepeating.engine.cursor + 1]? = some e2) ∧
    -- the error policy under which a failed write walks on
    ((drainingOneShot.setGroup 4 { drainingOneShot.group 4 with config := { errorPolicy := .carryOn } }).group
      4).config.errorPolicy = .carryOn := by
  refine ⟨.inl ⟨⟨0, rfl⟩, rfl⟩, .inr ⟨rfl, rfl, rfl⟩, ?_, ?_, ?_, ?_⟩ <;> and_intros <;> decide +kernel

/-- The same release with a pass-through request waiting, after a grant to each side. -/
def contested (lastGranted : PortSide) : State :=
  { drainingOneShot with port := { drainingOneShot.port with waiting := [pass 6 none], lastGranted } }

/-- The same release with every other tag ABANDONED. -/
def nearlyStuck : State :=
  withTags #v[.busy (.release e0) 0 4096, .abandoned, .abandoned, .abandoned] drainingOneShot

theorem witness_ContestedAndStuck :
    (∀ side ∈ [PortSide.passThrough, .release], TakesEvents (contested side) ∧
      (contested side).tag 0 = .busy (.release e0) 0 4096 ∧ NoFreeTag (contested side).port ∧
      (contested side).port.waiting = pass 6 none :: [] ∧ (contested side).port.lastGranted = side ∧
      (contested side).engine.state = .draining ∧ (contested side).engine.kind = some .oneShot ∧
      ((contested side).group 4).entries = e0 :: e1 :: [e2]) ∧
    (TakesEvents nearlyStuck ∧ nearlyStuck.tag 0 = .busy (.release e0) 0 4096 ∧ nearlyStuck.engine.state = .draining ∧
      nearlyStuck.engine.group = some 4 ∧ (nearlyStuck.group 4).config.errorPolicy = .abort ∧
      (timedOut nearlyStuck 0).completions.records.map CompletionRecord.kind = [.downstreamStuck]) := by
  and_intros <;> decide +kernel

/-- The release of `drainingOneShot` being stopped for the given cause. -/
def stopping (cause : StopCause) : State :=
  { drainingOneShot with engine := { drainingOneShot.engine with state := .stopping, cause := some cause } }

theorem witness_FaultsAndStopsEndTheRelease :
    EndsRequest (.response 0 .error 0) 0 .error .free ∧ EndsRequest (.responseTimeout 0) 0 .error .abandoned ∧
    (∀ s ∈ [drainingOneShot, stopping .discard, stopping .softReset], TakesEvents s ∧
      s.tag 0 = .busy (.release e0) 0 4096 ∧ s.engine.group = some 4 ∧ s.launchQueue = [] ∧ s.port.waiting = [] ∧
      ((3 : TagId) ≠ 0 ∧ s.tag 3 ≠ .abandoned) ∧ NoSuccessor s 4 ∧ s.fencedOn ≠ some 4) ∧
    (drainingOneShot.engine.state = .draining ∧ drainingOneShot.engine.cause = none ∧
      (drainingOneShot.group 4).config.errorPolicy = .abort) ∧
    ((stopping .discard).engine.state = .stopping ∧ (stopping .discard).engine.cause = some .discard) ∧
    ((stopping .softReset).engine.state = .stopping ∧ (stopping .softReset).engine.cause = some .softReset) := by
  refine ⟨.inl ⟨⟨0, rfl⟩, rfl⟩, .inr ⟨rfl, rfl, rfl⟩, ?_, ?_, ?_, ?_⟩ <;> and_intros <;> decide +kernel

/-! ## The timebase and the launch unit -/

/-- LOCKED with the line counter one and two below the frame limit, and at 4095 in SEARCH. -/
def atLimit : Timebase := ⟨4000, 1132, 999, .external, .locked, none, 1000, 1125, 8⟩
def belowLimit : Timebase := { atLimit with line := 1131 }
def atTop : Timebase := { atLimit with line := 4095, lock := .search }

theorem witness_LineTimerMakesTheMarks : TakesEvents late ∧
    (∀ g : GroupId, (late.group g).condition = none ∧ (late.group g).deadlineRemaining = none) ∧
    (AtFrameLimit atLimit = true ∧ Expired atLimit ⟨4001, 0, 0, .external, .flywheel, none, 1000, 1125, 8⟩) ∧
    (AtFrameLimit belowLimit = false ∧ Expired belowLimit { belowLimit with line := 1132, timer := 0 }) ∧
    (AtFrameLimit atTop = false ∧ Expired atTop { atTop with timer := 0 }) := by and_intros <;> decide +kernel

/-- A pulse long enough and one that follows a missed rise, and a short high, a short low, and both short. -/
theorem witness_edges : EdgeCertain false 2 2 ∧ EdgeCertain true 1 0 ∧ ¬ EdgeCertain true 2 1 ∧ ¬ EdgeCertain false 1 2 ∧
    ¬ EdgeCertain false 1 1 := by decide

theorem witness_FsyncMakesTheFrames : EdgeCertain State.reset.missedEdges.fsync 2 2 ∧
    EdgeCertain ({ State.reset with missedEdges := { fsync := true } } : State).missedEdges.fsync 1 0 ∧
    ¬ EdgeCertain State.reset.missedEdges.fsync 5 1 ∧ (TakesEvents State.reset ∧ State.reset.timebase.mode = .internal) ∧
    (∀ lock ∈ [LockState.search, .locked, .flywheel],
      TakesEvents ({ late with timebase := { late.timebase with lock } } : State) ∧
      ({ late with timebase := { late.timebase with lock } } : State).timebase.mode = .external ∧ lock ≠ .none ∧
      ∀ g : GroupId, (({ late with timebase := { late.timebase with lock } } : State).group g).condition = none ∧
        (({ late with timebase := { late.timebase with lock } } : State).group g).deadlineRemaining = none) := by
  and_intros <;> decide +kernel

/-- A group of each outcome: 0 fired, 1 lowered to 1, 2 forced, 3 a missed launch; group 4 is under CANCEL. -/
def marked : State :=
  { State.reset with
    groups := #v[{ state := .armed, condition := some (.point 7), deadlineRemaining := some 1, config := { deadline := 1 } },
      { state := .armed, condition := some .trig, deadlineRemaining := some 2, config := { deadline := 2 } },
      { state := .armed, condition := some .soft, deadlineRemaining := some 1
        config := { deadline := 1, deadlineAction := .force } },
      { state := .pending, condition := some .nextFrame },
      { state := .armed, condition := some .trig, deadlineRemaining := some 255, config := { deadline := 255 } }, {}, {}, {}]
    points := State.reset.points.set 7 { enabled := true }
    launchQueue := [3], engine := busyEngine }

theorem witness_MarksFireAndExpire : TakesEvents marked ∧ (∀ g : GroupId, (marked.group g).deadlineRemaining ≠ some 0) ∧
    (∀ g : GroupId, (⟨.frame, 20, 0⟩ : Mark).kind = .frame → ¬ MarkFires marked ⟨.frame, 20, 0⟩ g →
      (marked.group g).state = .armed → (marked.group g).deadlineRemaining = some 1 →
      (marked.group g).config.deadlineAction = .force) ∧
    (MarkFires marked ⟨.frame, 20, 0⟩ 0 ∧ MarkFires marked ⟨.frame, 20, 0⟩ 3 ∧ ¬ MarkFires marked ⟨.frame, 20, 0⟩ 1 ∧
      ¬ MarkFires marked ⟨.frame, 20, 0⟩ 2 ∧ ¬ MarkFires marked ⟨.line, 20, 1⟩ 0) ∧
    marked.engine.state ≠ .idle ∧ ({ marked with engine := {} } : State).engine.state = .idle := by
  and_intros <;> decide +kernel

/-- Group 1 comes to 0 under CANCEL with group 2 waiting on it, and group 0 is fired. -/
def markCancels : State :=
  { State.reset with
    groups := #v[{ state := .armed, condition := some .nextFrame, entries := [e0] },
      { state := .armed, condition := some .trig, deadlineRemaining := some 1, config := { deadline := 1 }, entries := [e1] },
      { state := .armed, condition := some (.after 1) }, {}, {}, {}, {}, {}]
    free := 1022 }

theorem witness_MarkThatCancels : TakesEvents markCancels ∧
    (∀ g : GroupId, (markCancels.group g).deadlineRemaining ≠ some 0) ∧
    MarkFires markCancels ⟨.frame, 20, 0⟩ 0 ∧ ¬ MarkFires markCancels ⟨.frame, 20, 0⟩ 1 ∧
    (loweredRecord (markCancels.group 1)).deadlineRemaining = some 0 ∧
    (markCancels.group 1).config.deadlineAction = .cancel ∧ IsSuccessor markCancels 2 1 ∧
    markCancels.engine.state = .idle := by and_intros <;> decide +kernel

theorem witness_TrigFiresItsGroups : TakesEvents armable ∧ EdgeCertain armable.missedEdges.trig 2 2 ∧
    EdgeCertain ({ armable with missedEdges := { trig := true } } : State).missedEdges.trig 1 0 ∧
    ((armable.group 6).condition = some .trig ∧ (armable.group 6).state = .armed) ∧
    (({ armable with trigLevel := true } : State).trigLevel = true ∧ armable.missedEdges.trig = false) ∧
    ¬ EdgeCertain armable.missedEdges.trig 5 1 ∧ ¬ EdgeCertain armable.missedEdges.trig 0 2 ∧ armable.trigLevel = false ∧
    armable.engine.state = .idle := by and_intros <;> decide +kernel

/-- Group 7 in the wait in which its deadline has come to 0. -/
def expiring (deadlineAction : DeadlineAction) : State :=
  oneGroup 7 { config := { deadline := 3, deadlineAction }, state := .armed, condition := some .soft
               deadlineRemaining := some 0, checkCode := some 0 }

theorem witness_DeadlineExpiryForcesOrCancels :
    (∀ a ∈ [DeadlineAction.cancel, .force], TakesEvents (expiring a) ∧ ((expiring a).group 7).state = .armed ∧
      ((expiring a).group 7).deadlineRemaining = some 0 ∧ ((expiring a).group 7).config.deadlineAction = a ∧
      NoSuccessor (expiring a) 7 ∧ (expiring a).engine.state = .idle) ∧
    ({ expiring .force with engine := busyEngine } : State).engine.state ≠ .idle ∧
    (TakesEvents State.reset ∧ (State.reset.group 7).state ≠ .armed) := by and_intros <;> decide +kernel

/-! ## The completion queue -/

/-- A queue of `n` records. -/
def queued (n : Nat) : State :=
  { State.reset with completions := ⟨List.replicate n ⟨.syncRegained, none, none, 0, 0, {}, 0⟩, 0, 0⟩, irqLow := true }

theorem witness_OfferStoresOrDrops : (queued 31).completions.records.length < 32 ∧
    32 ≤ (queued 32).completions.records.length := by decide +kernel

/-! ## What every step keeps -/

/-- The traffic of 04 with E0 issued, with its requests counted and named, and its response at the front of the queue. -/
def running : State :=
  { trafficDraining with
    port := { tags := #v[.busy (.release e0) 0 4096, busyPass 0 (some 2), .free, .free]
              settle := #v[0, 0, 1, 0, 0, 0, 0, 0] }
    ingress := [judged]
    nextId := 1
    pending := [.response 0 .okay 0] }

/-- R15: a state with an AFTER condition and no cycle, and its step answers next. -/
theorem witness_AfterAcyclic : AfterAcyclic armable ∧ IsAfter armable 5 6 ∧ ∃ t, step armable = .next t := by
  have edges : ∀ a b : GroupId, IsAfter armable a b → a = 5 ∧ b = 6 := by decide +kernel
  refine ⟨fun g h => ?_, by decide +kernel, ⟨_, rfl⟩⟩
  obtain ⟨b, first, -⟩ := Relation.TransGen.head'_iff.mp h
  obtain ⟨c, -, last⟩ := Relation.TransGen.tail'_iff.mp h
  exact absurd ((edges g b first).1.symm.trans (edges c g last).2) (by decide)

/-- R80, R99: the write copy of `running` is the entry on the tag. -/
theorem witness_TagCarriesCopy : TagCarriesCopy running ∧ running.tag 0 = .busy (.release e0) 0 4096 := by
  refine ⟨?_, by decide +kernel⟩
  intro t e n m h
  fin_cases t <;> simp [running, State.tag, busyPass] at h
  rw [← h.1]
  decide +kernel

/-- R99, R103: the timeouts of `running` are in range. -/
theorem witness_TimeoutsInRange : TimeoutsInRange running := by
  refine ⟨by decide +kernel, ?_⟩
  intro t r n m h
  fin_cases t <;> simp [running, State.tag, busyPass] at h <;> omega

/-- The state satisfies the premise of every invariant statement, and its step answers next. -/
theorem witness_invariants : PoolBalance running ∧ EntriesWellFormed running ∧ (∀ c ∈ running.pending, c.wellFormed = true) ∧
    ListsWithinCap running ∧ Coordinated running ∧ WriteCarriesHeldEntry running ∧ SettleCountsRequests running ∧
    NoMarkedRequestInDraining running ∧ TimebaseInRange running.timebase ∧ CompletionsInRange running ∧
    PointsInRange running ∧ WindowsInRange running ∧ IngressInOrder running ∧ IngressNamed running ∧
    IssuedHoldsTag running ∧ NoGrantDue running ∧ OutputsQuiet running ∧ ∃ t, step running = .next t := by
  refine ⟨?_, ?_, ?_, ?_, ⟨?_, ?_, ?_, ?_, ?_⟩, ?_, ?_, ?_, ?_, ?_, ?_, ?_, ?_, ?_, ?_, ?_, ?_, ⟨_, rfl⟩⟩
  case refine_5 =>
    intro g
    have h : (running.group g).state ≠ .armed := by revert g; decide +kernel
    refine ⟨?_, ?_, fun x => absurd x h, fun x => absurd x h, ?_, ?_, ?_, ?_, ?_, ?_, ?_⟩ <;> revert g <;> decide +kernel
  all_goals decide +kernel

/-- The same state after its queue has been taken from it, with commands that are not the ones excepted. -/
theorem witness_ConfigurationAndRecords :
    (∃ t, exec (.response 0 .okay 0) running = .next t) ∧ Instr.response 0 .okay 0 ≠ .powerOnReset ∧
    (∀ n, Instr.response 0 .okay 0 ≠ .rstN n) ∧ (∀ f, Instr.response 0 .okay 0 ≠ .groupConfig f) ∧
    (∀ f, Instr.response 0 .okay 0 ≠ .windowSet f) ∧ (∀ f, Instr.response 0 .okay 0 ≠ .windowClear f) ∧
    (∀ f, Instr.response 0 .okay 0 ≠ .pointSet f) ∧ (∀ f, Instr.response 0 .okay 0 ≠ .portConfig f) ∧
    (∀ f, Instr.response 0 .okay 0 ≠ .timebaseConfig f) ∧ (∀ f, Instr.response 0 .okay 0 ≠ .irqConfig f) ∧
    (∀ f, Instr.response 0 .okay 0 ≠ .queuePop f) ∧ (∀ f, Instr.response 0 .okay 0 ≠ .softReset f) := by
  refine ⟨⟨_, rfl⟩, ?_⟩
  simp

end Sys2Proof.Tests
end

section
/-!
The chain of groups that wait on one another: AFTER conditions, successors, and whom a group breaks (R9, R15).
-/
namespace Sys2Proof.Machine

open Safety Relation

/-! ## Following a partial function -/

section Follow

variable {α : Type} (next : α → Option α)

/-- The place reached from `a` in `n` links. -/
def follow : Nat → α → Option α
  | 0, a => some a
  | n + 1, a => (next a).bind (follow n)

variable {next}

theorem follow_add (m n : Nat) (a : α) : follow next (m + n) a = (follow next m a).bind (follow next n) := by
  induction m generalizing a with
  | zero => simp [follow]
  | succ m ih =>
    rw [Nat.succ_add, follow, follow, Option.bind_assoc]
    exact congrArg _ (funext ih)

/-- A path of links is a number of links followed. -/
theorem exists_follow_of_reflTransGen {a b : α} (h : ReflTransGen (fun x y => next x = some y) a b) :
    ∃ n, follow next n a = some b := by
  induction h using ReflTransGen.head_induction_on with
  | refl => exact ⟨0, rfl⟩
  | head e _ ih =>
    obtain ⟨n, hn⟩ := ih
    exact ⟨n + 1, by rw [follow, e, Option.bind_some, hn]⟩

theorem reflTransGen_of_follow {n : Nat} {a b : α} (h : follow next n a = some b) :
    ReflTransGen (fun x y => next x = some y) a b := by
  induction n generalizing a with
  | zero =>
    cases h
    exact .refl
  | succ n ih =>
    obtain ⟨c, hc, hb⟩ := Option.bind_eq_some_iff.mp h
    exact .head hc (ih hb)

/-- Whatever is reached is reached without coming to a place twice, and so in no more links than there are places. -/
theorem exists_follow_le_card [Fintype α] {a b : α} (h : ReflTransGen (fun x y => next x = some y) a b) :
    ∃ n ≤ Fintype.card α, follow next n a = some b := by
  classical
  have hex := exists_follow_of_reflTransGen h
  refine ⟨Nat.find hex, ?_, Nat.find_spec hex⟩
  by_contra hlt
  obtain ⟨i, j, hij, he⟩ := Fintype.exists_ne_map_eq_of_card_lt
    (fun i : Fin (Nat.find hex + 1) => follow next i a) (by rw [Fintype.card_option, Fintype.card_fin]; omega)
  wlog hlt' : i < j generalizing i j
  · exact this j i hij.symm he.symm (lt_of_le_of_ne (not_lt.mp hlt') hij.symm)
  have hj : j.val ≤ Nat.find hex := Nat.le_of_lt_succ j.isLt
  have hshort : follow next (i.val + (Nat.find hex - j.val)) a = some b := by
    rw [follow_add, he, ← follow_add, Nat.add_sub_cancel' hj]
    exact Nat.find_spec hex
  have hmin := Nat.find_min' hex hshort
  have hlt'' : i.val < j.val := hlt'
  omega

end Follow

/-! ## Chains of AFTER conditions (R9, R15) -/

/-- R15: the group that the AFTER condition of `k` names. -/
def State.afterOf (s : State) (k : GroupId) : Option GroupId :=
  match (s.group k).condition with
  | some (.after h) => some h
  | _ => none

/-- R9: the group that an ARMED `k` waits on. -/
def State.waitedOn (s : State) (k : GroupId) : Option GroupId := if (s.group k).state = .armed then s.afterOf k else none

theorem afterOf_eq_some_iff (s : State) (a b : GroupId) : s.afterOf a = some b ↔ IsAfter s a b := by
  unfold State.afterOf IsAfter
  split
  · next h e => simp [e]
  · next e => simpa using fun h => e _ h

theorem waitedOn_eq_some_iff (s : State) (a b : GroupId) : s.waitedOn a = some b ↔ IsSuccessor s a b := by
  rw [IsSuccessor, show (s.group a).condition = some (.after b) ↔ s.afterOf a = some b from
    (afterOf_eq_some_iff s a b).symm, State.waitedOn]
  simp

theorem isAfter_eq (s : State) : IsAfter s = fun a b => s.afterOf a = some b :=
  funext₂ fun a b => propext (afterOf_eq_some_iff s a b).symm

theorem isSuccessor_eq (s : State) : IsSuccessor s = fun a b => s.waitedOn a = some b :=
  funext₂ fun a b => propext (waitedOn_eq_some_iff s a b).symm

theorem chainReaches_succ (s : State) (g : GroupId) (fuel : Nat) (h : GroupId) :
    s.chainReaches g (fuel + 1) h = (h == g || (s.afterOf h).any (s.chainReaches g fuel)) := by
  rw [State.chainReaches]
  unfold State.afterOf
  cases (s.group h).condition with
  | none => rfl
  | some c => cases c <;> rfl

theorem waitsOn_succ (s : State) (g : GroupId) (fuel : Nat) (k : GroupId) :
    s.waitsOn g (fuel + 1) k = (s.waitedOn k).any fun h => h == g || s.waitsOn g fuel h := by
  rw [State.waitsOn]
  unfold State.waitedOn State.afterOf
  by_cases ha : (s.group k).state = .armed
  · simp only [ha, beq_self_eq_true, Bool.true_and, if_true]
    cases (s.group k).condition with
    | none => rfl
    | some c => cases c <;> rfl
  · simp [ha]

theorem chainReaches_iff (s : State) (g : GroupId) (fuel : Nat) (h : GroupId) :
    s.chainReaches g fuel h = true ↔ ∃ n < fuel, follow s.afterOf n h = some g := by
  induction fuel generalizing h with
  | zero => simp [State.chainReaches]
  | succ fuel ih =>
    have hsplit : (∃ n < fuel + 1, follow s.afterOf n h = some g) ↔
        h = g ∨ ∃ k, s.afterOf h = some k ∧ ∃ n < fuel, follow s.afterOf n k = some g := by
      constructor
      · rintro ⟨n, hn, he⟩
        cases n with
        | zero => exact .inl (Option.some_inj.mp he)
        | succ n =>
          obtain ⟨k, hk, he⟩ := Option.bind_eq_some_iff.mp he
          exact .inr ⟨k, hk, n, by omega, he⟩
      · rintro (rfl | ⟨k, hk, n, hn, he⟩)
        · exact ⟨0, by omega, rfl⟩
        · exact ⟨n + 1, by omega, by rw [follow, hk, Option.bind_some, he]⟩
    rw [hsplit, chainReaches_succ, Bool.or_eq_true, beq_iff_eq, Option.any_eq_true]
    simp only [ih]

/-- R15: the chain that GROUP_ARM follows through at most nine groups reaches every group there is to reach. -/
theorem chainReaches_nine_iff (s : State) (g h : GroupId) :
    s.chainReaches g 9 h = true ↔ ReflTransGen (IsAfter s) h g := by
  rw [chainReaches_iff, isAfter_eq]
  constructor
  · rintro ⟨n, -, he⟩
    exact reflTransGen_of_follow he
  · intro h
    obtain ⟨n, hn, he⟩ := exists_follow_le_card h
    exact ⟨n, Nat.lt_succ_of_le hn, he⟩

theorem waitsOn_iff (s : State) (g : GroupId) (fuel : Nat) (k : GroupId) :
    s.waitsOn g fuel k = true ↔ ∃ n < fuel, follow s.waitedOn (n + 1) k = some g := by
  induction fuel generalizing k with
  | zero => simp [State.waitsOn]
  | succ fuel ih =>
    have hsplit : (∃ n < fuel + 1, follow s.waitedOn (n + 1) k = some g) ↔
        ∃ h, s.waitedOn k = some h ∧ (h = g ∨ ∃ n < fuel, follow s.waitedOn (n + 1) h = some g) := by
      constructor
      · rintro ⟨n, hn, he⟩
        obtain ⟨h, hh, he⟩ := Option.bind_eq_some_iff.mp he
        cases n with
        | zero => exact ⟨h, hh, .inl (Option.some_inj.mp he)⟩
        | succ n => exact ⟨h, hh, .inr ⟨n, by omega, he⟩⟩
      · rintro ⟨h, hh, rfl | ⟨n, hn, he⟩⟩
        · exact ⟨0, by omega, by rw [follow, hh]; rfl⟩
        · exact ⟨n + 1, by omega, by rw [follow, hh, Option.bind_some, he]⟩
    rw [hsplit, waitsOn_succ, Option.any_eq_true]
    simp only [Bool.or_eq_true, beq_iff_eq, ih]

/-- R9: a group is broken by `g` when it waits on it through ARMED successors. -/
theorem waitsOn_eight_iff {s : State} {g k : GroupId} (hk : k ≠ g) :
    s.waitsOn g 8 k = true ↔ TransGen (IsSuccessor s) k g := by
  rw [waitsOn_iff, isSuccessor_eq]
  constructor
  · rintro ⟨n, -, he⟩
    exact (reflTransGen_iff_eq_or_transGen.mp (reflTransGen_of_follow he)).resolve_left (Ne.symm hk)
  · intro h
    obtain ⟨n, hn, he⟩ := exists_follow_le_card h.to_reflTransGen
    cases n with
    | zero => exact absurd (Option.some_inj.mp he) hk
    | succ n => exact ⟨n, hn, he⟩

theorem pairwise_allGroups_filter (p : GroupId → Bool) : (allGroups.filter p).Pairwise (· < ·) :=
  List.Pairwise.filter _ (by decide)

theorem mem_allGroups (g : GroupId) : g ∈ allGroups := by revert g; decide

theorem mem_brokenBy_iff (s : State) (g k : GroupId) : k ∈ s.brokenBy g ↔ IsBrokenBy s g k := by
  unfold State.brokenBy IsBrokenBy
  simp only [List.mem_filter, mem_allGroups, true_and, Bool.and_eq_true, bne_iff_ne]
  exact and_congr_right waitsOn_eight_iff

/-- R9: the breaking of successors in the terms of the claims. -/
theorem broke_breakSuccessors (s : State) (g : GroupId) : Broke s g (s.breakSuccessors g) := by
  refine ⟨s.brokenBy g, pairwise_allGroups_filter _, mem_brokenBy_iff s g, ?_⟩
  unfold State.breakSuccessors
  congr

/-! ## A new AFTER condition (R15) -/

/-- R15: a group from which nothing leads to `g` may be waited on by `g`: no cycle comes about. -/
theorem afterAcyclic_setGroup {s : State} (h : AfterAcyclic s) {g : GroupId} {r : GroupRecord}
    (hr : ∀ k, r.condition = some (.after k) → ¬ ReflTransGen (IsAfter s) k g) : AfterAcyclic (s.setGroup g r) := by
  have edge {a b : GroupId} (hab : IsAfter (s.setGroup g r) a b) : IsAfter s a b ∨ a = g ∧ r.condition = some (.after b) := by
    rw [IsAfter, State.group_setGroup] at hab
    split at hab
    · next e => exact .inr ⟨e, hab⟩
    · exact .inl hab
  -- a path leads through the old conditions alone, or comes to `g` through them
  have path {a b : GroupId} (hab : TransGen (IsAfter (s.setGroup g r)) a b) :
      TransGen (IsAfter s) a b ∨ ReflTransGen (IsAfter s) a g ∧ ∃ k, r.condition = some (.after k) ∧
        (ReflTransGen (IsAfter s) k b ∨ ReflTransGen (IsAfter s) k g) := by
    induction hab using TransGen.head_induction_on with
    | single hab =>
      rcases edge hab with e | ⟨rfl, e⟩
      · exact .inl (.single e)
      · exact .inr ⟨.refl, _, e, .inl .refl⟩
    | head hab _ ih =>
      rcases edge hab with e | ⟨rfl, e⟩
      · rcases ih with ih | ⟨ih, hk⟩
        · exact .inl (.head e ih)
        · exact .inr ⟨.head e ih, hk⟩
      · refine .inr ⟨.refl, _, e, ?_⟩
        rcases ih with ih | ⟨ih, -⟩
        · exact .inl ih.to_reflTransGen
        · exact .inr ih
  intro a ha
  rcases path ha with ha | ⟨hag, k, hk, hka | hkg⟩
  · exact h a ha
  · exact hr k hk (hka.trans hag)
  · exact hr k hk hkg

end Sys2Proof.Machine
end

section
/-!
Which fields of a group record are present in which state, and that every change of state keeps it so (R3, R5, R141).
-/
namespace Sys2Proof.Machine

open Safety

/-! ## The shape of a group record (R3, R5, R141) -/

/-- The clauses of `RecordWellFormed` by name. `late` says whether a mark may have brought the deadline to 0 already, as it
has between its two steps (R138, log 8). -/
structure RecordShape (late : Prop) (r : GroupRecord) : Prop where
  condition : r.condition.isSome ↔ r.state = .armed ∨ r.state = .pending ∨ r.state = .releasing
  noDeadline : r.state ≠ .armed → r.deadlineRemaining = none
  unloaded : r.state = .armed → r.config.deadline = 0 → r.deadlineRemaining = none
  loaded : r.state = .armed → r.config.deadline ≠ 0 →
    ∃ n, r.deadlineRemaining = some n ∧ (n = 0 → late) ∧ n ≤ r.config.deadline
  noRepeats : r.condition = none → r.repeatsRemaining = 0
  repeats : r.repeatsRemaining ≤ 255
  checkCode : r.checkCode = none ↔ r.state = .idle ∨ r.state = .opened
  collisions : r.collisionCount ≤ 255
  missed : r.missedCount ≤ 255
  configRepeats : r.config.repeats ≤ 255
  configDeadline : r.config.deadline ≤ 255

theorem recordWellFormed_iff (r : GroupRecord) : RecordWellFormed r ↔ RecordShape False r := by
  have hpos (n : Nat) : (n = 0 → False) ↔ 1 ≤ n := Nat.one_le_iff_ne_zero.symm
  constructor
  · rintro ⟨h1, h2, h3, h4, h5, h6, h7, h8, h9, h10, h11⟩
    exact ⟨h1, h2, h3, by simpa only [hpos] using h4, h5, h6, h7, h8, h9, h10, h11⟩
  · rintro ⟨h1, h2, h3, h4, h5, h6, h7, h8, h9, h10, h11⟩
    exact ⟨h1, h2, h3, by simpa only [hpos] using h4, h5, h6, h7, h8, h9, h10, h11⟩

namespace RecordShape

variable {late late' : Prop} {r : GroupRecord}

theorem mono (h : RecordShape late r) (hl : late → late') : RecordShape late' r :=
  { h with
    loaded := fun ha hd => by
      obtain ⟨n, hn, h0, hle⟩ := h.loaded ha hd
      exact ⟨n, hn, fun e => hl (h0 e), hle⟩ }

/-- A record that is not ARMED has no deadline that could be late. -/
theorem of_not_armed (h : RecordShape late r) (ha : r.state ≠ .armed) : RecordShape late' r :=
  { h with loaded := fun hs => absurd hs ha }

theorem not_idle_or_opened (hs : r.state = .armed ∨ r.state = .pending ∨ r.state = .releasing) :
    ¬ (r.state = .idle ∨ r.state = .opened) := by
  rcases hs with hs | hs | hs <;> simp [hs]

/-- A change of the fields that the shape does not speak of, and of counts that stay in range. -/
theorem congr (h : RecordShape late r) {r' : GroupRecord} (hc : r'.config = r.config) (hs : r'.state = r.state)
    (hk : r'.condition = r.condition) (hd : r'.deadlineRemaining = r.deadlineRemaining)
    (hr : r'.repeatsRemaining = r.repeatsRemaining) (hcode : r'.checkCode = r.checkCode)
    (hcol : r'.collisionCount ≤ 255) (hmis : r'.missedCount ≤ 255) : RecordShape late r' := by
  constructor <;> simp only [hc, hs, hk, hd, hr, hcode, hcol, hmis]
  exacts [h.condition, h.noDeadline, h.unloaded, h.loaded, h.noRepeats, h.repeats, h.checkCode, h.configRepeats,
    h.configDeadline]

theorem toIdle (h : RecordShape late r) : RecordShape late' r.toIdle :=
  { h with
    condition := by simp [GroupRecord.toIdle]
    noDeadline := fun _ => rfl
    unloaded := fun _ _ => rfl
    loaded := by simp [GroupRecord.toIdle]
    noRepeats := fun _ => rfl
    repeats := Nat.zero_le _
    checkCode := by simp [GroupRecord.toIdle] }

/-- R9, R28: a group that leaves its armed states for CLOSED, or RELEASING for FAULTED. -/
theorem withdrawn (h : RecordShape late r) (hn : ¬ (r.state = .idle ∨ r.state = .opened)) {st : GroupState}
    (hst : st = .closed ∨ st = .faulted) :
    RecordShape late' { r with state := st, condition := none, deadlineRemaining := none, repeatsRemaining := 0 } :=
  { h with
    condition := by rcases hst with rfl | rfl <;> simp
    noDeadline := fun _ => rfl
    unloaded := fun _ _ => rfl
    loaded := by rcases hst with rfl | rfl <;> simp
    noRepeats := fun _ => rfl
    repeats := Nat.zero_le _
    checkCode := by rcases hst with rfl | rfl <;> simpa using fun e => hn (h.checkCode.mp e) }

theorem toClosed (h : RecordShape late r) (hn : ¬ (r.state = .idle ∨ r.state = .opened)) :
    RecordShape late' r.toClosed := h.withdrawn hn (.inl rfl)

theorem toFaulted (h : RecordShape late r) (hn : ¬ (r.state = .idle ∨ r.state = .opened)) :
    RecordShape late' r.toFaulted := h.withdrawn hn (.inr rfl)

/-- R24, R26: a group that holds a condition goes to PENDING or RELEASING. -/
theorem launched (h : RecordShape late r) (hs : r.state = .armed ∨ r.state = .pending ∨ r.state = .releasing)
    {st : GroupState} (hst : st = .pending ∨ st = .releasing) :
    RecordShape late' { r with state := st, deadlineRemaining := none } :=
  { h with
    condition := by
      have := h.condition.mpr hs
      rcases hst with rfl | rfl <;> simpa
    noDeadline := fun _ => rfl
    unloaded := fun _ _ => rfl
    loaded := by rcases hst with rfl | rfl <;> simp
    checkCode := by
      have := h.checkCode.not.mpr (not_idle_or_opened hs)
      rcases hst with rfl | rfl <;> simpa }

theorem toPending (h : RecordShape late r) (hs : r.state = .armed) : RecordShape late' r.toPending :=
  h.launched (.inl hs) (.inl rfl)

/-- R26: the group taken from the head of the launch queue. -/
theorem toReleasing (h : RecordShape late r) (hs : r.state = .pending) :
    RecordShape late' { r with state := .releasing } := by
  have hd : r.deadlineRemaining = none := h.noDeadline (by simp [hs])
  have hl := h.launched (late' := late') (.inr (.inl hs)) (.inr rfl)
  rwa [← hd] at hl

/-- R141: a group that enters ARMED with a condition, its deadline loaded. -/
theorem enterArmed (h : RecordShape late r) (hn : ¬ (r.state = .idle ∨ r.state = .opened)) {c : Option LaunchCondition}
    (hc : c.isSome) {n : Nat} (hr : n ≤ 255) :
    RecordShape late' { r with
      state := .armed, condition := c, repeatsRemaining := n, deadlineRemaining := r.config.loadedDeadline } :=
  { h with
    condition := by simpa using hc
    noDeadline := fun hs => absurd rfl hs
    unloaded := fun _ (hd : r.config.deadline = 0) => by simp [GroupConfig.loadedDeadline, hd]
    loaded := fun _ (hd : r.config.deadline ≠ 0) => 
      ⟨_, by simp only [GroupConfig.loadedDeadline, hd, if_false], fun e => absurd e hd, le_rfl⟩
    noRepeats := fun e : c = none => by simp [e] at hc
    repeats := hr
    checkCode := by simpa using fun e => hn (h.checkCode.mp e) }

theorem arm (h : RecordShape late r) (hs : r.state = .closed ∨ r.state = .faulted) (c : LaunchCondition) :
    RecordShape late' (r.arm c) :=
  h.enterArmed (by rcases hs with hs | hs <;> simp [hs]) (c := some c) rfl h.configRepeats

theorem missLaunch (h : RecordShape late r) : RecordShape late r.missLaunch :=
  h.congr rfl rfl rfl rfl rfl rfl h.collisions (by simp [GroupRecord.missLaunch, saturate255])

theorem collide (h : RecordShape late r) : RecordShape late r.collide :=
  h.congr rfl rfl rfl rfl rfl rfl (by simp [GroupRecord.collide, saturate255]) h.missed

theorem clearFlags (h : RecordShape late r) : RecordShape late r.clearFlags :=
  h.congr rfl rfl rfl rfl rfl rfl (Nat.zero_le _) (Nat.zero_le _)

theorem endRelease (h : RecordShape late r) (written failed : Nat) : RecordShape late (r.endRelease written failed) :=
  h.congr rfl rfl rfl rfl rfl rfl h.collisions h.missed

theorem rearm (h : RecordShape late r) (hs : r.state = .releasing) : RecordShape late' r.rearm := by
  have hr := h.repeats
  exact h.enterArmed (by simp [hs]) (h.condition.mpr (by simp [hs])) (by split <;> omega)

theorem openFromIdle (h : RecordShape late r) (hs : r.state = .idle) : RecordShape late' r.openFromIdle := by
  have hk : r.condition = none := by simpa [hs] using h.condition
  have hc : r.checkCode = none := h.checkCode.mpr (.inl hs)
  have hd := h.noDeadline (by simp [hs])
  exact { h.clearFlags with
    condition := by simp [GroupRecord.openFromIdle, GroupRecord.clearFlags, hk]
    noDeadline := fun _ => hd
    unloaded := fun _ _ => hd
    loaded := by simp [GroupRecord.openFromIdle]
    checkCode := by simp [GroupRecord.openFromIdle, GroupRecord.clearFlags, hc] }

theorem reopen (h : RecordShape late r) (hs : r.state = .closed) : RecordShape late' r.reopen := by
  have hk : r.condition = none := by simpa [hs] using h.condition
  have hd := h.noDeadline (by simp [hs])
  exact { h with
    condition := by simp [GroupRecord.reopen, hk]
    noDeadline := fun _ => hd
    unloaded := fun _ _ => hd
    loaded := by simp [GroupRecord.reopen]
    checkCode := by simp [GroupRecord.reopen] }

theorem close (h : RecordShape late r) (hs : r.state = .opened) : RecordShape late' r.close := by
  have hk : r.condition = none := by simpa [hs] using h.condition
  have hd := h.noDeadline (by simp [hs])
  exact { h with
    condition := by simp [GroupRecord.close, hk]
    noDeadline := fun _ => hd
    unloaded := fun _ _ => hd
    loaded := by simp [GroupRecord.close]
    checkCode := by simp [GroupRecord.close] }

theorem configured (h : RecordShape late r) (hs : r.state = .idle) {c : GroupConfig} (hr : c.repeats ≤ 255)
    (hd : c.deadline ≤ 255) : RecordShape late' { r with config := c } :=
  { h with
    unloaded := fun (ha : r.state = .armed) => by simp [hs] at ha
    loaded := fun (ha : r.state = .armed) => by simp [hs] at ha
    configRepeats := hr
    configDeadline := hd }

/-- R138: the first step of a frame mark may bring a deadline to 0. -/
theorem lowerDeadline (h : RecordShape late r) (hl : late') : RecordShape late' r.lowerDeadline := by
  unfold GroupRecord.lowerDeadline
  split
  · next hs =>
    exact { h with
      noDeadline := fun hn => absurd hs hn
      unloaded := fun _ hd => by simp [h.unloaded hs hd]
      loaded := fun _ hd => by
        obtain ⟨n, hn, -, hle⟩ := h.loaded hs hd
        exact ⟨n - 1, by simp [hn], fun _ => hl, le_trans (Nat.sub_le ..) hle⟩ }
  · next hs => exact h.of_not_armed hs

theorem softReset (h : RecordShape late r) : RecordShape late' r.softReset :=
  h.toIdle.clearFlags.congr rfl rfl rfl rfl rfl rfl (Nat.zero_le _) (Nat.zero_le _)

theorem default : RecordShape late {} :=
  ⟨by simp, fun _ => rfl, fun _ _ => rfl, by simp, fun _ => rfl, by simp, by simp, by simp, by simp, by simp, by simp⟩

end RecordShape

end Sys2Proof.Machine
end

section
/-!
The operations that leave the launch side alone, and what holds through a judgement (R54).
-/
namespace Sys2Proof.Machine

open Safety

/-! ## Operations that leave the launch side alone -/

/-- The record `r'` differs from `r` in what is staged, in the flags and counts and in the last release result alone. -/
structure GroupRecord.Alike (r r' : GroupRecord) : Prop where
  config : r'.config = r.config
  state : r'.state = r.state
  condition : r'.condition = r.condition
  deadline : r'.deadlineRemaining = r.deadlineRemaining
  repeats : r'.repeatsRemaining = r.repeatsRemaining
  checkCode : r'.checkCode = r.checkCode
  collisions : r.collisionCount ≤ 255 → r'.collisionCount ≤ 255
  missed : r.missedCount ≤ 255 → r'.missedCount ≤ 255

theorem GroupRecord.Alike.refl (r : GroupRecord) : r.Alike r := ⟨rfl, rfl, rfl, rfl, rfl, rfl, id, id⟩

theorem GroupRecord.Alike.trans {r r' r'' : GroupRecord} (h : r.Alike r') (k : r'.Alike r'') : r.Alike r'' :=
  ⟨k.config.trans h.config, k.state.trans h.state, k.condition.trans h.condition, k.deadline.trans h.deadline,
    k.repeats.trans h.repeats, k.checkCode.trans h.checkCode, k.collisions ∘ h.collisions, k.missed ∘ h.missed⟩

theorem RecordShape.alike {late : Prop} {r r' : GroupRecord} (h : RecordShape late r) (k : r.Alike r') :
    RecordShape late r' :=
  h.congr k.config k.state k.condition k.deadline k.repeats k.checkCode (k.collisions h.collisions) (k.missed h.missed)

/-- R99: the release context is the same, or its waiting write has been issued. -/
def Engine.MayIssue (e e' : Engine) : Prop :=
  e' = e ∨ e.write = .requested ∧ e.copy.isSome ∧ e' = { e with write := .issued }

/-- From `s` to `t` no group has changed its state, the launch queue and the fence are as they were, and the release engine
has at most had its write issued: all that the capture unit, the store and the memory port do. -/
structure Quiet (s t : State) : Prop where
  records : ∀ g : GroupId, (s.group g).Alike (t.group g)
  queue : t.launchQueue = s.launchQueue
  fence : t.fencedOn = s.fencedOn
  engine : s.engine.MayIssue t.engine
  inReset : t.inReset = s.inReset
  clkRuns : t.clkRuns = s.clkRuns

variable {s t u : State}

theorem Quiet.refl (s : State) : Quiet s s := ⟨fun _ => .refl _, rfl, rfl, .inl rfl, rfl, rfl⟩

theorem Engine.MayIssue.trans {e e' e'' : Engine} (h : e.MayIssue e') (k : e'.MayIssue e'') : e.MayIssue e'' := by
  rcases h with rfl | ⟨hw, hc, rfl⟩
  · exact k
  · rcases k with rfl | ⟨hw', -, -⟩
    · exact .inr ⟨hw, hc, rfl⟩
    · exact absurd hw' (by simp)

theorem Quiet.trans (h : Quiet s t) (k : Quiet t u) : Quiet s u :=
  ⟨fun g => (h.records g).trans (k.records g), k.queue.trans h.queue, k.fence.trans h.fence, h.engine.trans k.engine,
    k.inReset.trans h.inReset, k.clkRuns.trans h.clkRuns⟩

theorem quiet_setGroup {s : State} {g : GroupId} {r : GroupRecord} (h : (s.group g).Alike r) : Quiet s (s.setGroup g r) := by
  refine ⟨fun k => ?_, rfl, rfl, .inl rfl, rfl, rfl⟩
  rw [State.group_setGroup]
  split
  · next e => exact e ▸ h
  · exact .refl _

theorem quiet_setPort (s : State) (p : MemoryPort) : Quiet s (s.setPort p) := ⟨fun _ => .refl _, rfl, rfl, .inl rfl, rfl, rfl⟩

theorem quiet_setTag (s : State) (t : TagId) (x : TagState) : Quiet s (s.setTag t x) := quiet_setPort ..

theorem quiet_setIngress (s : State) (q : List Ingress) : Quiet s (s.setIngress q) :=
  ⟨fun _ => .refl _, rfl, rfl, .inl rfl, rfl, rfl⟩

theorem quiet_modifyIngress (s : State) (id : Nat) (f : Ingress → Ingress) : Quiet s (s.modifyIngress id f) :=
  quiet_setIngress ..

theorem quiet_setFree (s : State) (n : Nat) : Quiet s (s.setFree n) := ⟨fun _ => .refl _, rfl, rfl, .inl rfl, rfl, rfl⟩

theorem quiet_setLink (s : State) (l : ControlLink) : Quiet s (s.setLink l) := ⟨fun _ => .refl _, rfl, rfl, .inl rfl, rfl, rfl⟩

theorem quiet_setTimebase (s : State) (b : Timebase) : Quiet s (s.setTimebase b) :=
  ⟨fun _ => .refl _, rfl, rfl, .inl rfl, rfl, rfl⟩

theorem quiet_useFree (s : State) : Quiet s s.useFree := ⟨fun _ => .refl _, rfl, rfl, .inl rfl, rfl, rfl⟩

theorem quiet_setMissed (s : State) (m : MissedEdges) : Quiet s (s.setMissed m) :=
  ⟨fun _ => .refl _, rfl, rfl, .inl rfl, rfl, rfl⟩

theorem quiet_setCompletions (s : State) (c : IrqConfig) (q : CompletionQueue) : Quiet s (s.setCompletions c q) :=
  ⟨fun _ => .refl _, rfl, rfl, .inl rfl, rfl, rfl⟩

theorem quiet_setReported (s : State) (v : List ReportedCounts) : Quiet s (s.setReported v) :=
  ⟨fun _ => .refl _, rfl, rfl, .inl rfl, rfl, rfl⟩

theorem quiet_setWindow (s : State) (w : Fin 16) (r : Window) : Quiet s (s.setWindow w r) :=
  ⟨fun _ => .refl _, rfl, rfl, .inl rfl, rfl, rfl⟩

theorem quiet_setPoint (s : State) (p : Fin 8) (r : LaunchPoint) : Quiet s (s.setPoint p r) :=
  ⟨fun _ => .refl _, rfl, rfl, .inl rfl, rfl, rfl⟩

theorem quiet_setTrigLevel (s : State) (b : Bool) : Quiet s (s.setTrigLevel b) :=
  ⟨fun _ => .refl _, rfl, rfl, .inl rfl, rfl, rfl⟩

theorem quiet_offer (s : State) (kind : RecordKind) (group : Option GroupId) (report : Option ReleaseReport)
    (flags : RecordFlags) : Quiet s (s.offer kind group report flags) := quiet_setCompletions ..

theorem quiet_offerPlain (s : State) (kind : RecordKind) (group : Option GroupId) : Quiet s (s.offerPlain kind group) :=
  quiet_offer ..

theorem quiet_offerReleased (s : State) (g : GroupId) : Quiet s (s.offerReleased g) :=
  (quiet_offer ..).trans (quiet_setReported ..)

/-! ### The store and the memory port -/

theorem quiet_freeHead (s : State) (g : GroupId) : Quiet s (s.freeHead g) := by
  rcases freeHead_cases s g with ⟨-, h⟩ | ⟨e, rest, -, h⟩ <;> rw [h]
  · exact .refl _
  · exact (quiet_setFree ..).trans (quiet_setGroup ⟨rfl, rfl, rfl, rfl, rfl, rfl, id, id⟩)

theorem quiet_addRequest (s : State) (g : GroupId) (address data : Word) (mask : Mask) :
    Quiet s (s.addRequest g address data mask).1 := by
  rcases addRequest_cases s g address data mask with ⟨-, -, h⟩ | ⟨-, -, h⟩ | ⟨-, -, h⟩ <;> rw [h]
  · exact quiet_setGroup ⟨rfl, rfl, rfl, rfl, rfl, rfl, id, id⟩
  · exact (quiet_setFree s (s.free - 1)).trans (quiet_setGroup ⟨rfl, rfl, rfl, rfl, rfl, rfl, id, id⟩)
  · exact .refl _

theorem quiet_grantOne (s : State) : Quiet s s.grantOne := by
  rcases grantOne_cases s with h | ⟨t, r, rest, -, -, -, h⟩ | ⟨t, e, -, hw, hc, -, h⟩ <;> rw [h]
  · exact .refl _
  · exact quiet_setPort ..
  · exact ⟨fun _ => .refl _, rfl, rfl, .inr ⟨hw, by simp [hc], rfl⟩, rfl, rfl⟩

theorem quiet_grantAll (s : State) : Quiet s s.grantAll :=
  (((quiet_grantOne _).trans (quiet_grantOne _)).trans (quiet_grantOne _)).trans (quiet_grantOne _)

theorem quiet_handOver (s : State) (r : PassRequest) : Quiet s (s.handOver r) :=
  (quiet_setPort ..).trans (quiet_grantOne _)

theorem quiet_endPass (s : State) (r : PassRequest) (answer : Answer) (data : Word) : Quiet s (s.endPass r answer data) :=
  (quiet_modifyIngress ..).trans (quiet_setPort ..)

theorem quiet_noteStuck (s : State) : Quiet s s.noteStuck := by
  unfold State.noteStuck
  split
  · exact quiet_offerPlain ..
  · exact .refl _

/-! ### The decision of a beat -/

theorem quiet_noteOverflow (s : State) (g : GroupId) : Quiet s (s.noteOverflow g) := by
  have h : Quiet s (s.modifyGroup g GroupRecord.overflow) := quiet_setGroup ⟨rfl, rfl, rfl, rfl, rfl, rfl, id, id⟩
  unfold State.noteOverflow
  split
  · exact h
  · exact h.trans (quiet_offerPlain ..)

theorem quiet_checkCollision (s : State) (g : GroupId) (address : Word) : Quiet s (s.checkCollision g address) := by
  unfold State.checkCollision
  split
  · exact quiet_setGroup ⟨rfl, rfl, rfl, rfl, rfl, rfl, fun _ => by simp [GroupRecord.collide, saturate255], id⟩
  · exact .refl _

theorem quiet_captureBeat (s : State) (id k : Nat) (address : Word) (b : WriteBeat) (g : GroupId) :
    Quiet s (s.captureBeat id k address b g).1 := by
  have h := quiet_addRequest s g address b.data b.mask
  unfold State.captureBeat
  split
  · next e => rw [e] at h; exact h
  · next e => rw [e] at h; exact h
  · next e =>
    rw [e] at h
    split
    · exact h.trans (quiet_noteOverflow ..)
    · exact (h.trans (quiet_noteOverflow ..)).trans (quiet_handOver ..)

theorem quiet_missBeat (s : State) (id k : Nat) (address : Word) (b : WriteBeat) (w : Window) :
    Quiet s (s.missBeat id k address b w).1 := by
  unfold State.missBeat
  split
  · exact .refl _
  · exact (quiet_checkCollision ..).trans (quiet_handOver ..)

theorem quiet_decideWrite (s : State) (id : Nat) (t : Transaction) (k : Nat) (b : WriteBeat) :
    Quiet s (s.decideWrite id t k b).1 := by
  unfold State.decideWrite
  split
  · exact .refl _
  · split
    · exact quiet_handOver ..
    · split
      · exact quiet_captureBeat ..
      · exact quiet_missBeat ..

theorem quiet_decideRead (s : State) (id : Nat) (t : Transaction) (k : Nat) : Quiet s (s.decideRead id t k).1 := by
  unfold State.decideRead
  split
  · exact quiet_handOver ..
  · split
    · exact quiet_handOver ..
    · split
      · exact .refl _
      · exact quiet_handOver ..

theorem quiet_respond (s : State) : Quiet s s.respond := by
  unfold State.respond
  split
  · exact .refl _
  · split
    · exact ⟨fun _ => .refl _, rfl, rfl, .inl rfl, rfl, rfl⟩
    · exact .refl _

theorem quiet_acceptTransaction (s : State) (t : Transaction) : Quiet s (s.acceptTransaction t) := by
  unfold State.acceptTransaction
  split
  · exact ⟨fun _ => .refl _, rfl, rfl, .inl rfl, rfl, rfl⟩
  · exact .refl _

/-! ## The judgement (R54) -/

/-- R54: what holds of a state through every quiet operation, through the setting of the fence on a RELEASING group and
through what happens between two beats, holds through a judgement. -/
theorem judge_induction {P : State → Prop} (hq : ∀ s t, Quiet s t → P s → P t)
    (hf : ∀ s g, (s.group g).state = .releasing → P s → P (s.setFence (some g))) {gap : State → State}
    (hg : ∀ s, P s → P (gap s)) {s : State} (hs : P s) : P (s.judge gap) := by
  have before {s : State} (k : Nat) (hs : P s) : P (s.beforeBeat gap k) := by
    unfold State.beforeBeat
    split
    · exact hs
    · exact hg s hs
  have reads (id : Nat) (t : Transaction) (k n : Nat) {s : State} (hs : P s) : P (s.decideReads gap id t k n) := by
    induction n generalizing s k with
    | zero => exact hs
    | succ n ih => exact ih _ (hq _ _ ((quiet_decideRead ..).trans (quiet_modifyIngress ..)) (before k hs))
  have writes (id : Nat) (t : Transaction) (k : Nat) (bs : List WriteBeat) {s : State} (hs : P s) :
      P (s.decideWrites gap id t k bs) := by
    induction bs generalizing s k with
    | nil => exact hs
    | cons b bs ih => exact ih _ (hq _ _ ((quiet_decideWrite ..).trans (quiet_modifyIngress ..)) (before k hs))
  rcases judge_cases s gap with ⟨-, h⟩ | ⟨u, -, -, ⟨-, h⟩ | ⟨g, -, hfence, h⟩ | ⟨-, -, h⟩⟩ <;> rw [h]
  · exact hs
  · exact hq _ _ (quiet_modifyIngress ..) hs
  · obtain ⟨k, -, hk⟩ := List.exists_of_findSome?_eq_some hfence
    unfold State.fencedBeat at hk
    split at hk
    · simp at hk
    · split at hk
      · next hr => exact hf s g (by cases hk; simpa using hr) hs
      · simp at hk
  · refine hq _ _ (quiet_modifyIngress ..) ?_
    unfold State.decideBeats
    split
    · exact reads _ _ _ _ hs
    · exact writes _ _ _ _ hs

/-- R64: the same for the judgements before the next taking, between whose beats nothing happens (log 30). -/
theorem judgeBeforeTaking_induction {P : State → Prop} (hq : ∀ s t, Quiet s t → P s → P t)
    (hf : ∀ s g, (s.group g).state = .releasing → P s → P (s.setFence (some g))) {s : State} (hs : P s) :
    P s.judgeBeforeTaking := by
  have times (n : Nat) {s : State} (hs : P s) : P (s.judgeTimes n) := by
    induction n generalizing s with
    | zero => exact hs
    | succ n ih => exact ih (judge_induction hq hf (gap := id) (fun _ h => h) hs)
  unfold State.judgeBeforeTaking
  split
  · exact times _ (hq _ _ (quiet_useFree s) hs)
  · exact hs

end Sys2Proof.Machine
end

section
/-!
Launch conditions only go away, and the group records agree with the launch queue (R15, R145).
-/
namespace Sys2Proof.Machine

open Safety

variable {s t u : State}

/-! ## Launch conditions only go away (R15) -/

/-- From `s` to `t` no group has got a launch condition that it did not hold: all that any operation but GROUP_ARM does. -/
structure Fades (s t : State) : Prop where
  condition : ∀ g : GroupId, (t.group g).condition = (s.group g).condition ∨ (t.group g).condition = none

theorem Fades.refl (s : State) : Fades s s := ⟨fun _ => .inl rfl⟩

theorem Fades.trans (h : Fades s t) (k : Fades t u) : Fades s u := ⟨fun g => by
  rcases k.condition g with e | e
  · rw [e]; exact h.condition g
  · exact .inr e⟩

theorem Fades.foldl {α : Type} {f : State → α → State} (h : ∀ s a, Fades s (f s a)) (l : List α) (s : State) :
    Fades s (l.foldl f s) := by
  induction l generalizing s with
  | nil => exact .refl s
  | cons a l ih => exact (h s a).trans (ih _)

theorem Quiet.fades (h : Quiet s t) : Fades s t := ⟨fun g => .inl (h.records g).condition⟩

theorem fades_setGroup {g : GroupId} {r : GroupRecord} (h : r.condition = (s.group g).condition ∨ r.condition = none) :
    Fades s (s.setGroup g r) := ⟨fun k => by
  rw [State.group_setGroup]
  split
  · next e => exact e ▸ h
  · exact .inl rfl⟩

theorem fades_setEngine (s : State) (e : Engine) : Fades s (s.setEngine e) := ⟨fun _ => .inl rfl⟩

theorem fades_setFence (s : State) (g : Option GroupId) : Fades s (s.setFence g) := ⟨fun _ => .inl rfl⟩

theorem fades_setLaunchQueue (s : State) (q : List GroupId) : Fades s (s.setLaunchQueue q) := ⟨fun _ => .inl rfl⟩

/-- R15: conditions that only go away close no cycle. -/
theorem afterAcyclic_fades (h : AfterAcyclic s) (k : Fades s t) : AfterAcyclic t := by
  have edge (a b : GroupId) (hab : IsAfter t a b) : IsAfter s a b := by
    rcases k.condition a with e | e
    · exact e.symm.trans hab
    · cases e.symm.trans hab
  exact fun g hg => h g (Relation.TransGen.mono edge _ _ hg)

/-! ## Coordination without the engine and the fence -/

/-- The records have their shape and the launch queue holds the PENDING groups, `late g` saying whether the deadline of `g` may
be 0, and the RELEASING groups are those of `held`. -/
structure Agree (late held : GroupId → Prop) (s : State) : Prop where
  records : ∀ g : GroupId, RecordShape (late g) (s.group g)
  queue : QueueHoldsPending s
  releasing : ∀ g : GroupId, (s.group g).state = .releasing ↔ held g

/-- No group of the kind. -/
abbrev noGroup : GroupId → Prop := fun _ => False

/-- R26, R81, R89: the group that the release engine holds in a release that SOFT_RESET has not stopped. -/
def Engine.Holds (e : Engine) (g : GroupId) : Prop := e.group = some g ∧ e.cause ≠ some .softReset

theorem coordinated_iff : Coordinated s ↔
    Agree noGroup s.engine.Holds s ∧ ContextWellFormed s.engine ∧ FenceOnReleasing s := by
  constructor
  · rintro ⟨hr, hc, hh, hq, hf⟩
    exact ⟨⟨fun g => (recordWellFormed_iff _).mp (hr g), hq, hh⟩, hc, hf⟩
  · rintro ⟨⟨hr, hq, hh⟩, hc, hf⟩
    exact ⟨fun g => (recordWellFormed_iff _).mpr (hr g), hc, hh, hq, hf⟩

theorem coordinated_agree (h : Coordinated s) : Agree noGroup s.engine.Holds s := (coordinated_iff.mp h).1

namespace Agree

variable {late held : GroupId → Prop} {g : GroupId} {r : GroupRecord}

/-- The same groups and the same launch queue. -/
theorem of_eq (h : Agree late held s) (hg : ∀ g, t.group g = s.group g) (hq : t.launchQueue = s.launchQueue) :
    Agree late held t := by
  refine ⟨fun g => hg g ▸ h.records g, ?_, fun g => hg g ▸ h.releasing g⟩
  have hk := h.queue
  simpa only [QueueHoldsPending, hq, hg] using hk

theorem quiet (h : Agree late held s) (k : Quiet s t) : Agree late held t := by
  refine ⟨fun g => (h.records g).alike (k.records g), ?_, fun g => (k.records g).state ▸ h.releasing g⟩
  have hk := h.queue
  simpa only [QueueHoldsPending, k.queue, (k.records _).state] using hk

theorem mono (h : Agree late held s) {late' : GroupId → Prop} (hl : ∀ g, late g → late' g) : Agree late' held s :=
  ⟨fun g => (h.records g).mono (hl g), h.queue, h.releasing⟩

/-- A group is given a record, and the launch queue is set to hold it or not as its new state asks. -/
theorem setGroup (h : Agree late held s) {late' held' : GroupId → Prop} {q : List GroupId} (hr : RecordShape (late' g) r)
    (hl : ∀ k, k ≠ g → late k → late' k) (hq : q.Nodup) (hg : g ∈ q ↔ r.state = .pending)
    (hk : ∀ k, k ≠ g → (k ∈ q ↔ k ∈ s.launchQueue)) (hheld : r.state = .releasing ↔ held' g)
    (hrest : ∀ k, k ≠ g → (held k ↔ held' k)) : Agree late' held' ((s.setGroup g r).setLaunchQueue q) := by
  refine ⟨fun k => ?_, ⟨hq, fun k => ?_⟩, fun k => ?_⟩ <;>
    rw [State.setLaunchQueue_group, State.group_setGroup] <;> split
  · next e => exact e ▸ hr
  · next e => exact (h.records k).mono (hl k e)
  · next e => exact e ▸ hg
  · next e => exact (hk k e).trans (h.queue.2 k)
  · next e => exact e ▸ hheld
  · next e => exact (h.releasing k).trans (hrest k e)

/-- A group that is neither PENDING nor RELEASING before and after. -/
theorem setGroup_resting (h : Agree late held s) (hr : RecordShape (late g) r)
    (hs : (s.group g).state ≠ .pending ∧ (s.group g).state ≠ .releasing) (ht : r.state ≠ .pending ∧ r.state ≠ .releasing) :
    Agree late held (s.setGroup g r) := by
  refine (h.setGroup (q := s.launchQueue) hr (fun _ _ => id) h.queue.1 ?_ (fun _ _ => Iff.rfl) ?_ fun _ _ => Iff.rfl).of_eq
    (fun _ => rfl) rfl
  · rw [h.queue.2 g]
    exact iff_of_false hs.1 ht.1
  · rw [← h.releasing g]
    exact iff_of_false ht.2 hs.2

/-- R24, R146: an ARMED group goes to PENDING at the end of the launch queue. -/
theorem launch (h : Agree late held s) (hs : (s.group g).state = .armed) (hr : RecordShape (late g) r)
    (ht : r.state = .pending) : Agree late held ((s.setGroup g r).setLaunchQueue (s.launchQueue ++ [g])) := by
  have hn : g ∉ s.launchQueue := fun hm => by simpa [hs] using (h.queue.2 g).mp hm
  refine h.setGroup hr (fun _ _ => id) ?_ (by simp [ht]) (fun k hk => by simp [hk]) ?_ fun _ _ => Iff.rfl
  · simpa [List.nodup_append] using ⟨h.queue.1, fun k hk (e : k = g) => hn (e ▸ hk)⟩
  · rw [← h.releasing g, hs, ht]
    simp

/-- R147: a PENDING group leaves the launch queue for a state in which it rests. -/
theorem withdraw (h : Agree late held s) (hs : (s.group g).state = .pending) (hr : RecordShape (late g) r)
    (ht : r.state ≠ .pending ∧ r.state ≠ .releasing) : Agree late held ((s.setGroup g r).removeLaunch g) := by
  refine h.setGroup hr (fun _ _ => id) (h.queue.1.filter _) (by simp [ht.1]) (fun k hk => by simp [hk]) ?_ fun _ _ => Iff.rfl
  rw [← h.releasing g, hs]
  simp [ht.2]

/-- R8, R45: a group that is neither PENDING nor RELEASING is emptied. -/
theorem emptyGroup (h : Agree late held s) (hs : (s.group g).state ≠ .pending ∧ (s.group g).state ≠ .releasing) :
    Agree late held (s.emptyGroup g) :=
  (h.quiet (quiet_setFree ..)).setGroup_resting (h.records g).toIdle hs (by simp [GroupRecord.toIdle])

/-! ### Notices and the breaking of successors -/

theorem breakOne (h : Agree late held s) (hs : (s.group g).state = .armed) : Agree late held (s.breakOne g) :=
  (h.setGroup_resting ((h.records g).toClosed (by simp [hs])) (by simp [hs]) (by simp [GroupRecord.toClosed])).quiet
    (quiet_offerPlain ..)

end Agree

/-- R9: every group that is broken is ARMED. -/
theorem armed_of_mem_brokenBy {g k : GroupId} (h : k ∈ s.brokenBy g) : (s.group k).state = .armed := by
  have hw : s.waitsOn g 8 k = true := by
    simp only [State.brokenBy, List.mem_filter, Bool.and_eq_true] at h
    exact h.2.2
  unfold State.waitsOn at hw
  simp only [Bool.and_eq_true, beq_iff_eq] at hw
  exact hw.1

theorem nodup_allGroups_filter (p : GroupId → Bool) : (allGroups.filter p).Nodup :=
  List.Nodup.filter _ (by decide)

theorem Agree.breakSuccessors {late held : GroupId → Prop} (h : Agree late held s) (g : GroupId) :
    Agree late held (s.breakSuccessors g) := by
  have fold (l : List GroupId) (hl : l.Nodup) {s : State} (h : Agree late held s)
      (ha : ∀ k ∈ l, (s.group k).state = .armed) : Agree late held (l.foldl State.breakOne s) := by
    induction l generalizing s with
    | nil => exact h
    | cons a l ih =>
      obtain ⟨han, hl⟩ := List.nodup_cons.mp hl
      refine ih hl (h.breakOne (ha a (List.mem_cons_self ..))) fun k hk => ?_
      have hb := group_foldl_breakOne s [a] k
      simp only [List.foldl_cons, List.foldl_nil, List.mem_singleton] at hb
      rw [hb, if_neg (ne_of_mem_of_not_mem hk han)]
      exact ha k (List.mem_cons_of_mem _ hk)
  exact fold _ (nodup_allGroups_filter _) h fun k hk => armed_of_mem_brokenBy hk

theorem Agree.firingNotice {late held : GroupId → Prop} (h : Agree late held s) (g : GroupId) :
    Agree late held (s.firingNotice g) := by
  have missed : Agree late held (s.modifyGroup g GroupRecord.missLaunch) :=
    h.quiet (quiet_setGroup ⟨rfl, rfl, rfl, rfl, rfl, rfl, id, fun _ => by simp [GroupRecord.missLaunch, saturate255]⟩)
  unfold State.firingNotice
  split
  · next hs => exact h.launch hs ((h.records g).toPending hs) rfl
  · exact missed
  · exact missed
  all_goals exact h

theorem Agree.fireGroups {late held : GroupId → Prop} (h : Agree late held s) (gs : List GroupId) :
    Agree late held (s.fireGroups gs) := by
  unfold State.fireGroups
  induction gs generalizing s with
  | nil => exact h
  | cons g gs ih => exact ih (h.firingNotice g)

theorem Agree.expiryNotice {late held : GroupId → Prop} (h : Agree late held s) (g : GroupId) :
    Agree late held (s.expiryNotice g) := by
  have armed (he : (s.group g).expired = true) : (s.group g).state = .armed := by
    simp only [GroupRecord.expired, Bool.and_eq_true, beq_iff_eq] at he
    exact he.1
  rcases expiryNotice_cases s g with ⟨-, e⟩ | ⟨he, -, e⟩ | ⟨he, -, e⟩ <;> rw [e]
  · exact h
  · exact h.launch (armed he) (((h.records g).toPending (armed he)).congr rfl rfl rfl rfl rfl rfl (h.records g).collisions
      (h.records g).missed) rfl
  · exact ((h.quiet (quiet_offerPlain ..)).emptyGroup (by simp [State.offerPlain, State.offer, armed he])).breakSuccessors g

end Sys2Proof.Machine
end

section
/-!
The end of a release and the taking of the next group keep the launch side coordinated (R26 to R29, R80 to R89).
-/
namespace Sys2Proof.Machine

open Safety

variable {s t u : State}

/-! ## What the group controller does at the end of a release -/

theorem fades_emptyGroup (s : State) (g : GroupId) : Fades s (s.emptyGroup g) :=
  (quiet_setFree ..).fades.trans (fades_setGroup (.inr rfl))

theorem fades_breakSuccessors (s : State) (g : GroupId) : Fades s (s.breakSuccessors g) :=
  .foldl (fun s k => (fades_setGroup (s := s) (g := k) (.inr rfl)).trans (quiet_offerPlain ..).fades) _ s

theorem fades_firingNotice (s : State) (g : GroupId) : Fades s (s.firingNotice g) := by
  rw [firingNotice_eq]
  refine (fades_setGroup (.inl ?_)).trans (fades_setLaunchQueue ..)
  unfold firedRecord
  split
  · rfl
  · split <;> rfl

theorem fades_fireGroups (s : State) (gs : List GroupId) : Fades s (s.fireGroups gs) := .foldl fades_firingNotice gs s

theorem fades_expiryNotice (s : State) (g : GroupId) : Fades s (s.expiryNotice g) := by
  rcases expiryNotice_cases s g with ⟨-, e⟩ | ⟨-, -, e⟩ | ⟨-, -, e⟩ <;> rw [e]
  · exact .refl s
  · exact (fades_setGroup (.inl (by rfl))).trans (fades_setLaunchQueue ..)
  · exact ((quiet_offerPlain ..).fades.trans (fades_emptyGroup ..)).trans (fades_breakSuccessors ..)

theorem fades_completeGroup (s : State) (g : GroupId) (written failed : Nat) :
    Fades s (s.completeGroup g written failed) := by
  have settle (s : State) : Fades s (s.settleCompleted g) := by
    unfold State.settleCompleted
    split
    · exact fades_setGroup (.inl rfl)
    · exact (fades_setGroup (.inl (by rfl))).trans (fades_emptyGroup ..)
  exact (((fades_setGroup (.inl (by rfl))).trans (quiet_offerReleased _ g).fades).trans (settle _)).trans (fades_fireGroups ..)

theorem fades_closeRelease (s : State) (g : GroupId) (o : ReleaseOutcome) : Fades s (s.closeRelease g o) := by
  have discard (written failed : Nat) : Fades s (s.discardGroup g written failed) :=
    (((fades_setGroup (.inl (by rfl))).trans (quiet_offer ..).fades).trans (fades_emptyGroup ..)).trans
      (fades_breakSuccessors ..)
  unfold State.closeRelease
  split
  · exact fades_completeGroup ..
  · exact (((fades_setGroup (.inl (by rfl))).trans (quiet_offer ..).fades).trans (fades_setGroup (.inr rfl))).trans
      (fades_breakSuccessors ..)
  · exact .refl s
  · exact discard ..
  · exact discard ..

section Outcome

variable {g : GroupId} {late : GroupId → Prop} (h : Agree late (fun k => k = g) s)
include h

/-- A RELEASING group of which no other is RELEASING takes a state in which it rests. -/
theorem Agree.leave {r : GroupRecord} (hr : RecordShape (late g) r) (ht : r.state ≠ .pending ∧ r.state ≠ .releasing) :
    Agree late noGroup (s.setGroup g r) := by
  have hs : (s.group g).state = .releasing := (h.releasing g).mpr rfl
  refine (h.setGroup (q := s.launchQueue) (held' := noGroup) hr (fun _ _ => id) h.queue.1 ?_ (fun _ _ => Iff.rfl)
    (by simp [ht.2]) fun k hk => by simp [hk]).of_eq (fun _ => rfl) rfl
  rw [h.queue.2 g, hs]
  simp [ht.1]

/-- R4: the end of a release numbers it and records its counts. -/
theorem Agree.numbered (written failed : Nat) :
    Agree late (fun k => k = g) (s.modifyGroup g (GroupRecord.endRelease written failed)) :=
  h.quiet (quiet_setGroup ⟨rfl, rfl, rfl, rfl, rfl, rfl, id, id⟩)

theorem Agree.emptyReleasing : Agree late noGroup (s.emptyGroup g) :=
  (h.quiet (quiet_setFree ..)).leave (h.records g).toIdle (by simp [GroupRecord.toIdle])

theorem Agree.completeGroup (written failed : Nat) : Agree late noGroup (s.completeGroup g written failed) := by
  have settle {s : State} (h : Agree late (fun k => k = g) s) : Agree late noGroup (s.settleCompleted g) := by
    have hs : (s.group g).state = .releasing := (h.releasing g).mpr rfl
    unfold State.settleCompleted
    split
    · exact h.leave ((h.records g).clearFlags.rearm hs) (by simp [GroupRecord.rearm])
    · have cleared : Quiet s (s.modifyGroup g GroupRecord.clearFlags) :=
        quiet_setGroup ⟨rfl, rfl, rfl, rfl, rfl, rfl, fun _ => Nat.zero_le _, fun _ => Nat.zero_le _⟩
      exact (h.quiet cleared).emptyReleasing
  exact (settle ((h.numbered written failed).quiet (quiet_offerReleased ..))).fireGroups _

theorem Agree.faultGroup (written failed : Nat) : Agree late noGroup (s.faultGroup g written failed) := by
  have h' := (h.numbered written failed).quiet (quiet_offer _ .releaseFault (some g)
    (some ((s.modifyGroup g (GroupRecord.endRelease written failed)).group g).report)
    ((s.modifyGroup g (GroupRecord.endRelease written failed)).group g).recordFlags)
  exact (h'.leave ((h'.records g).toFaulted (by simp [(h'.releasing g).mpr rfl])) (by simp [GroupRecord.toFaulted])).breakSuccessors g

theorem Agree.discardGroup (written failed : Nat) : Agree late noGroup (s.discardGroup g written failed) :=
  ((h.numbered written failed).quiet (quiet_offer ..)).emptyReleasing.breakSuccessors g

end Outcome

/-! ## The fence and the release context are not the group controller's -/

theorem closeRelease_fencedOn (s : State) (g : GroupId) (o : ReleaseOutcome) : (s.closeRelease g o).fencedOn = s.fencedOn := by
  have broken (s : State) : (s.breakSuccessors g).fencedOn = s.fencedOn := by rw [breakSuccessors_rest]
  have fired (s : State) (gs : List GroupId) : (s.fireGroups gs).fencedOn = s.fencedOn := by
    unfold State.fireGroups
    induction gs generalizing s with
    | nil => rfl
    | cons a gs ih => rw [List.foldl_cons, ih, firingNotice_eq]; rfl
  have settled (s : State) : (s.settleCompleted g).fencedOn = s.fencedOn := by
    unfold State.settleCompleted
    split <;> rfl
  unfold State.closeRelease
  split
  · exact (fired _ _).trans ((settled _).trans rfl)
  · exact (broken _).trans rfl
  · rfl
  · exact (broken _).trans rfl
  · exact (broken _).trans rfl

/-! ## The release context (R80) -/

section Context

variable {e : Engine}

theorem contextWellFormed_idle : ContextWellFormed {} := by simp [ContextWellFormed]

theorem contextWellFormed_settling (hs : e.state = .settling) : ContextWellFormed e ↔
    e.group.isSome ∧ e.kind.isSome ∧ e.cause = none ∧ e.copy = none ∧ e.write = .none ∧ e.written = 0 ∧ e.failed = 0 ∧
      e.cursor = 0 := by
  simp only [ContextWellFormed, hs, reduceCtorEq, false_imp_iff, ne_eq, not_false_eq_true, true_imp_iff, iff_false,
    Option.not_isSome_iff_eq_none, true_and, and_true]
  constructor
  · rintro ⟨⟨h1, h2⟩, h3, h4, h5, h6⟩
    exact ⟨h1, h2, h3, by simpa [h5] using h4, h5, h6⟩
  · rintro ⟨h1, h2, h3, h4, h5, h6⟩
    exact ⟨⟨h1, h2⟩, h3, by simp [h4, h5], h5, h6⟩

theorem contextWellFormed_draining (hs : e.state = .draining) : ContextWellFormed e ↔
    e.group.isSome ∧ e.kind.isSome ∧ e.cause = none ∧ (e.copy.isSome ↔ e.write ≠ .none) := by
  simp [ContextWellFormed, hs, and_assoc]

theorem contextWellFormed_stopping (hs : e.state = .stopping) : ContextWellFormed e ↔
    e.group.isSome ∧ e.kind.isSome ∧ e.cause.isSome ∧ e.copy.isSome ∧ e.write = .issued := by
  simp only [ContextWellFormed, hs, reduceCtorEq, false_imp_iff, ne_eq, not_false_eq_true, true_imp_iff, iff_true,
    true_and, and_assoc]
  constructor
  · rintro ⟨h1, h2, h3, h4, h5⟩
    exact ⟨h1, h2, h3, h4.mpr (by simp [h5]), h5⟩
  · rintro ⟨h1, h2, h3, h4, h5⟩
    exact ⟨h1, h2, h3, by simp [h4, h5], h5⟩

theorem contextWellFormed_mayIssue {e' : Engine} (h : ContextWellFormed e) (k : e.MayIssue e') : ContextWellFormed e' := by
  rcases k with rfl | ⟨hw, hc, rfl⟩
  · exact h
  · cases hs : e.state
    case idle => rw [h.1 hs] at hw; simp at hw
    case settling => rw [((contextWellFormed_settling hs).mp h).2.2.2.2.1] at hw; simp at hw
    case draining =>
      obtain ⟨h1, h2, h3, -⟩ := (contextWellFormed_draining hs).mp h
      exact (contextWellFormed_draining rfl).mpr ⟨h1, h2, h3, by simp [hc]⟩
    case stopping =>
      obtain ⟨h1, h2, h3, h4, -⟩ := (contextWellFormed_stopping hs).mp h
      exact (contextWellFormed_stopping rfl).mpr ⟨h1, h2, h3, h4, rfl⟩

end Context

theorem Engine.MayIssue.holds {e e' : Engine} (h : e.MayIssue e') (g : GroupId) : e'.Holds g ↔ e.Holds g := by
  rcases h with rfl | ⟨-, -, rfl⟩ <;> rfl

theorem coordinated_quiet (h : Coordinated s) (k : Quiet s t) : Coordinated t := by
  obtain ⟨ha, hc, hf⟩ := coordinated_iff.mp h
  have ha' := ha.quiet k
  refine coordinated_iff.mpr ⟨⟨ha'.records, ha'.queue, fun g => (ha'.releasing g).trans (k.engine.holds g).symm⟩,
    contextWellFormed_mayIssue hc k.engine, fun g hg => ?_⟩
  rw [(k.records g).state]
  exact hf g (k.fence ▸ hg)

theorem coordinated_setFence (h : Coordinated s) {g : GroupId} (hg : (s.group g).state = .releasing) :
    Coordinated (s.setFence (some g)) := by
  obtain ⟨hr, hc, hh, hq, -⟩ := h
  exact ⟨hr, hc, hh, hq, fun k hk => by cases hk; exact hg⟩

/-- The release context changes, but neither the group in hand nor whether SOFT_RESET has stopped its release. -/
theorem coordinated_setEngine (h : Coordinated s) {e : Engine} (he : ContextWellFormed e)
    (hh : ∀ g, e.Holds g ↔ s.engine.Holds g) : Coordinated (s.setEngine e) := by
  obtain ⟨ha, -, hf⟩ := coordinated_iff.mp h
  exact coordinated_iff.mpr ⟨⟨ha.records, ha.queue, fun g => (ha.releasing g).trans (hh g).symm⟩, he, hf⟩

/-! ## The end of a release (R89) -/

/-- The release of `g` is in hand: the groups, the launch queue and the fence agree with that, whatever the engine does with
its write. -/
structure InHand (s : State) (g : GroupId) : Prop where
  group : s.engine.group = some g
  agree : Agree noGroup s.engine.Holds s
  fence : FenceOnReleasing s

variable {g : GroupId}

theorem coordinated_inHand (h : Coordinated s) (hg : s.engine.group = some g) : InHand s g :=
  ⟨hg, coordinated_agree h, h.fence⟩

theorem InHand.setEngine (h : InHand s g) {e : Engine} (hg : e.group = some g)
    (hc : e.cause = some .softReset ↔ s.engine.cause = some .softReset) : InHand (s.setEngine e) g :=
  ⟨hg, ⟨h.agree.records, h.agree.queue, fun k => (h.agree.releasing k).trans (by simp [Engine.Holds, hg, hc, h.group])⟩,
    h.fence⟩

theorem InHand.quiet (h : InHand s g) (k : Quiet s t) : InHand t g := by
  have ha := h.agree.quiet k
  refine ⟨?_, ⟨ha.records, ha.queue, fun g => (ha.releasing g).trans (k.engine.holds g).symm⟩, fun g hg => ?_⟩
  · rcases k.engine with e | ⟨-, -, e⟩ <;> rw [e] <;> exact h.group
  · rw [(k.records g).state]
    exact h.fence g (k.fence ▸ hg)

/-- The RELEASING group is the one in hand, unless SOFT_RESET has stopped its release. -/
theorem InHand.held (h : InHand s g) (hc : s.engine.cause ≠ some .softReset) : Agree noGroup (fun k => k = g) s :=
  ⟨h.agree.records, h.agree.queue, fun k => (h.agree.releasing k).trans (by simp [Engine.Holds, h.group, hc, eq_comm])⟩

theorem InHand.closeRelease (h : InHand s g) {o : ReleaseOutcome} (ho : o = .stopped ∨ s.engine.cause ≠ some .softReset) :
    Agree noGroup noGroup (s.closeRelease g o) := by
  by_cases hc : s.engine.cause = some .softReset
  · obtain rfl := ho.resolve_right (not_not_intro hc)
    simp only [State.closeRelease, hc]
    exact ⟨h.agree.records, h.agree.queue, fun k => (h.agree.releasing k).trans (by simp [Engine.Holds, hc])⟩
  · unfold State.closeRelease
    split
    · exact (h.held hc).completeGroup ..
    · exact (h.held hc).faultGroup ..
    · next e => exact absurd e hc
    · exact (h.held hc).discardGroup ..
    · exact (h.held hc).discardGroup ..

theorem InHand.finishRelease (h : InHand s g) {o : ReleaseOutcome}
    (ho : o = .stopped ∨ s.engine.cause ≠ some .softReset) : Coordinated (s.finishRelease o) := by
  have ha := h.closeRelease ho
  rw [finishRelease_of_group h.group, liftFence_eq]
  refine coordinated_iff.mpr ⟨⟨ha.records, ha.queue, fun k => (ha.releasing k).trans (by simp [Engine.Holds])⟩,
    contextWellFormed_idle, fun k hk => ?_⟩
  simp only [State.setFence_fencedOn, State.setEngine_fencedOn, closeRelease_fencedOn, Option.ite_none_left_eq_some] at hk
  obtain ⟨hne, hk⟩ := hk
  have hh : s.engine.Holds k := (h.agree.releasing k).mp (h.fence k hk)
  exact absurd (hk.trans (hh.1.symm.trans h.group)) hne

/-! ## The judgements, the taking and the walk -/

/-- From `s` to `t` conditions only go away, and the launch side stays coordinated. -/
structure Sound (s t : State) : Prop where
  fades : Fades s t
  coordinated : Coordinated s → Coordinated t

theorem Sound.refl (s : State) : Sound s s := ⟨.refl s, id⟩

theorem Sound.trans (h : Sound s t) (k : Sound t u) : Sound s u := ⟨h.fades.trans k.fades, k.coordinated ∘ h.coordinated⟩

theorem Sound.foldl {α : Type} {f : State → α → State} (h : ∀ s a, Sound s (f s a)) (l : List α) (s : State) :
    Sound s (l.foldl f s) := by
  induction l generalizing s with
  | nil => exact .refl s
  | cons a l ih => exact (h s a).trans (ih _)

theorem Quiet.sound (h : Quiet s t) : Sound s t := ⟨h.fades, fun hs => coordinated_quiet hs h⟩

theorem sound_judge (s : State) {gap : State → State} (hg : ∀ s, Sound s (gap s)) : Sound s (s.judge gap) :=
  judge_induction (P := Sound s) (fun _ _ k h => h.trans k.sound)
    (fun _ _ hr h => ⟨h.fades.trans (fades_setFence ..), fun hs => coordinated_setFence (h.coordinated hs) hr⟩)
    (fun _ h => h.trans (hg _)) (.refl s)

theorem sound_judgeBeforeTaking (s : State) : Sound s s.judgeBeforeTaking :=
  judgeBeforeTaking_induction (P := Sound s) (fun _ _ k h => h.trans k.sound)
    (fun _ _ hr h => ⟨h.fades.trans (fades_setFence ..), fun hs => coordinated_setFence (h.coordinated hs) hr⟩) (.refl s)

theorem fades_finishRelease (s : State) (o : ReleaseOutcome) : Fades s (s.finishRelease o) := by
  unfold State.finishRelease
  split
  · exact fades_setEngine ..
  · rw [liftFence_eq]
    exact ((fades_closeRelease ..).trans (fades_setEngine ..)).trans (fades_setFence ..)

/-- R84, R88: a walk during DRAINING with no write in hand asks for the next write or finishes. -/
theorem coordinated_walkOn (h : Coordinated s) (hs : s.engine.state = .draining) {finish : State → State}
    (hf : Coordinated (finish s)) : Coordinated (s.walkOn finish) := by
  rcases walkOn_cases s finish with ⟨e, -, e'⟩ | ⟨-, e'⟩ <;> rw [e']
  · obtain ⟨h1, h2, h3, -⟩ := (contextWellFormed_draining hs).mp h.context
    exact coordinated_setEngine h ((contextWellFormed_draining (by exact hs)).mpr ⟨h1, h2, h3, by simp⟩) fun _ => Iff.rfl
  · exact hf

theorem fades_walkOn (s : State) {finish : State → State} (hf : Fades s (finish s)) : Fades s (s.walkOn finish) := by
  rcases walkOn_cases s finish with ⟨e, -, e'⟩ | ⟨-, e'⟩ <;> rw [e']
  · exact fades_setEngine ..
  · exact hf

/-- In SETTLING and DRAINING a group is in hand and no stop has a cause. -/
theorem coordinated_inHand_of_state (h : Coordinated s) (hs : s.engine.state = .settling ∨ s.engine.state = .draining) :
    s.engine.cause = none ∧ ∃ g, InHand s g := by
  have hc : s.engine.cause = none ∧ s.engine.group.isSome := by
    rcases hs with hs | hs
    · obtain ⟨h1, -, h2, -⟩ := (contextWellFormed_settling hs).mp h.context
      exact ⟨h2, h1⟩
    · obtain ⟨h1, -, h2, -⟩ := (contextWellFormed_draining hs).mp h.context
      exact ⟨h2, h1⟩
  obtain ⟨g, hg⟩ := Option.isSome_iff_exists.mp hc.2
  exact ⟨hc.1, g, coordinated_inHand h hg⟩

/-- R83: the end of SETTLING. -/
theorem coordinated_endSettling (h : Coordinated s) (hs : s.engine.state = .settling) {finish : State → State}
    (hf : ∀ t g, InHand t g → t.engine.cause = none → Coordinated (finish t)) : Coordinated (s.endSettling finish) := by
  obtain ⟨h1, h2, h3, h4, h5, -⟩ := (contextWellFormed_settling hs).mp h.context
  obtain ⟨hc, g, hg⟩ := coordinated_inHand_of_state h (.inl hs)
  have hd : Coordinated (s.setEngine { s.engine with state := .draining }) :=
    coordinated_setEngine h ((contextWellFormed_draining rfl).mpr ⟨h1, h2, h3, by simp [h4, h5]⟩) fun _ => Iff.rfl
  exact coordinated_walkOn hd rfl (hf _ g (hg.setEngine hg.group Iff.rfl) hc)

/-- R81, R82: the head of the launch queue goes to RELEASING in the hand of the engine. -/
theorem coordinated_takeGroup (h : Coordinated s) (hs : s.engine.state = .idle) {rest : List GroupId}
    (hq : s.launchQueue = g :: rest) : Coordinated (s.takeGroup g rest) := by
  obtain ⟨ha, hc, hf⟩ := coordinated_iff.mp h
  have hp : (s.group g).state = .pending := (ha.queue.2 g).mp (by simp [hq])
  have hn : (g :: rest).Nodup := hq ▸ ha.queue.1
  have hno (k : GroupId) : ¬ s.engine.Holds k := by simp [Engine.Holds, hc.1 hs]
  have hagree : Agree noGroup (s.takenContext g).Holds (s.takeGroup g rest) := by
    refine (ha.setGroup (held' := (s.takenContext g).Holds) (q := rest) ((ha.records g).toReleasing hp) (fun _ _ => id)
      (List.nodup_cons.mp hn).2 ?_ (fun k hk => by simp [hq, hk]) ?_ ?_).of_eq (fun _ => rfl) rfl
    · simpa using (List.nodup_cons.mp hn).1
    · simp [Engine.Holds, State.takenContext]
    · intro k hk
      exact iff_of_false (hno k) fun e => hk (Option.some_inj.mp e.1).symm
  refine coordinated_iff.mpr ⟨hagree, (contextWellFormed_settling rfl).mpr (by
    simp [State.takeGroup, State.takenContext, State.modifyGroup]), fun k hk => ?_⟩
  exact absurd ((ha.releasing k).mp (hf k hk)) (hno k)

theorem sound_takeHead (s : State) : Sound s s.takeHead := by
  have taken (g : GroupId) (rest : List GroupId) : Fades s (s.takeGroup g rest) :=
    ((fades_setLaunchQueue s rest).trans (fades_setEngine _ (s.takenContext g))).trans (fades_setGroup (.inl (by rfl)))
  rcases takeHead_cases s with ⟨-, e⟩ | ⟨g, rest, hs, hq, ⟨-, e⟩ | ⟨-, e⟩⟩ <;> rw [e]
  · exact .refl s
  · exact ⟨taken g rest, fun h => coordinated_takeGroup h hs hq⟩
  · refine ⟨((taken g rest).trans (fades_setEngine ..)).trans (fades_walkOn _ (fades_finishRelease ..)), fun h => ?_⟩
    exact coordinated_endSettling (coordinated_takeGroup h hs hq) rfl fun t g ht hc => ht.finishRelease (.inr (by simp [hc]))

theorem sound_takeNext (s : State) : Sound s s.takeNext := by
  rcases takeNext_cases s with ⟨-, e⟩ | ⟨-, -, e⟩ <;> rw [e]
  · exact .refl s
  · exact (sound_takeHead s).trans (quiet_grantAll _).sound

theorem sound_takeIfAppended (s : State) (n : Nat) : Sound s (s.takeIfAppended n) := by
  unfold State.takeIfAppended
  split
  · exact sound_takeNext s
  · exact .refl s

theorem fades_endRelease (s : State) (o : ReleaseOutcome) : Fades s (s.endRelease o) :=
  ((fades_finishRelease ..).trans (sound_judgeBeforeTaking _).fades).trans (sound_takeHead _).fades

theorem InHand.endRelease (h : InHand s g) {o : ReleaseOutcome} (ho : o = .stopped ∨ s.engine.cause ≠ some .softReset) :
    Coordinated (s.endRelease o) :=
  (sound_takeHead _).coordinated ((sound_judgeBeforeTaking _).coordinated (h.finishRelease ho))

end Sys2Proof.Machine
end

section
/-!
The end of a write, the settling, and the marks keep the launch side coordinated (R83 to R91, R138).
-/
namespace Sys2Proof.Machine

open Safety

variable {s t u : State} {g : GroupId}

/-! ## The end of a release write (R85 to R91) -/

theorem fades_countWrite (s : State) (answer : Answer) : Fades s (s.countWrite answer) := by
  cases answer <;> exact fades_setEngine ..

theorem fades_dropWrite (s : State) : Fades s s.dropWrite := fades_setEngine ..

theorem fades_passEntry (s : State) (g : GroupId) : Fades s (s.passEntry g) := by
  unfold State.passEntry
  split
  · exact (quiet_freeHead ..).fades
  · exact fades_setEngine ..
  · exact .refl s

theorem quiet_freeStopped (s : State) (g : GroupId) (answer : Answer) : Quiet s (s.freeStopped g answer) := by
  unfold State.freeStopped
  split
  · exact quiet_freeHead ..
  · exact quiet_freeHead ..
  · exact .refl s

theorem inHand_countWrite (h : InHand s g) (answer : Answer) : InHand (s.countWrite answer) g := by
  cases answer <;> exact h.setEngine h.group Iff.rfl

theorem inHand_dropWrite (h : InHand s g) : InHand s.dropWrite g := h.setEngine h.group Iff.rfl

/-- The engine walks over the list of `g`, and the launch side is coordinated. -/
structure Draining (s : State) (g : GroupId) : Prop where
  coordinated : Coordinated s
  state : s.engine.state = .draining
  group : s.engine.group = some g

/-- R85, R86: counts, cursor and write of the release context change. -/
theorem Draining.setEngine (h : Draining s g) {e : Engine} (hs : e.state = s.engine.state) (hg : e.group = s.engine.group)
    (hk : e.kind = s.engine.kind) (hc : e.cause = s.engine.cause) (hw : e.copy.isSome ↔ e.write ≠ .none) :
    Draining (s.setEngine e) g := by
  obtain ⟨h1, h2, h3, -⟩ := (contextWellFormed_draining h.state).mp h.coordinated.context
  exact ⟨coordinated_setEngine h.coordinated
    ((contextWellFormed_draining (hs.trans h.state)).mpr ⟨hg ▸ h1, hk ▸ h2, hc.trans h3, hw⟩)
    fun k => by rw [Engine.Holds, hg, hc]; rfl, hs.trans h.state, hg.trans h.group⟩

theorem Draining.copy_iff (h : Draining s g) : s.engine.copy.isSome ↔ s.engine.write ≠ .none := by
  obtain ⟨-, -, -, hw⟩ := (contextWellFormed_draining h.state).mp h.coordinated.context
  exact hw

theorem Draining.countWrite (h : Draining s g) (answer : Answer) : Draining (s.countWrite answer) g := by
  cases answer <;> exact h.setEngine rfl rfl rfl rfl h.copy_iff

theorem freeHead_engine (s : State) (g : GroupId) : (s.freeHead g).engine = s.engine := by
  rcases freeHead_cases s g with ⟨-, e⟩ | ⟨x, rest, -, e⟩ <;> rw [e]
  rfl

theorem Draining.passEntry (h : Draining s g) : Draining (s.passEntry g) g := by
  unfold State.passEntry
  split
  · exact ⟨coordinated_quiet h.coordinated (quiet_freeHead ..), by rw [freeHead_engine]; exact h.state,
      by rw [freeHead_engine]; exact h.group⟩
  · exact h.setEngine rfl rfl rfl rfl h.copy_iff
  · exact h

theorem Draining.dropWrite (h : Draining s g) : Draining s.dropWrite g := h.setEngine rfl rfl rfl rfl (by simp)

theorem Draining.endRelease (h : Draining s g) (o : ReleaseOutcome) : Coordinated (s.endRelease o) := by
  obtain ⟨hc, -⟩ := coordinated_inHand_of_state h.coordinated (.inr h.state)
  exact (coordinated_inHand h.coordinated h.group).endRelease (.inr (by simp [hc]))

theorem sound_writeEnded (s : State) (answer : Answer) : Sound s (s.writeEnded answer) := by
  rcases writeEnded_cases s answer with ⟨g, hs, hg, ⟨-, -, e⟩ | ⟨-, e⟩⟩ | ⟨g, hs, hg, e⟩ | ⟨-, e⟩ <;> rw [e]
  · exact ⟨(fades_setEngine ..).trans (fades_endRelease ..), fun h =>
      (Draining.setEngine (e := { s.engine with failed := 1, write := .none, copy := none }) ⟨h, hs, hg⟩ rfl rfl rfl rfl
        (by simp)).endRelease .fault⟩
  · refine ⟨(((fades_countWrite ..).trans (fades_passEntry ..)).trans (fades_dropWrite _)).trans
      (fades_walkOn _ (fades_endRelease ..)), fun h => ?_⟩
    have ht := ((Draining.mk h hs hg).countWrite answer).passEntry.dropWrite
    exact coordinated_walkOn ht.coordinated ht.state (ht.endRelease .complete)
  · refine ⟨(((fades_countWrite ..).trans (quiet_freeStopped ..).fades).trans (fades_dropWrite _)).trans
      (fades_endRelease ..), fun h => ?_⟩
    exact (inHand_dropWrite ((inHand_countWrite (coordinated_inHand h hg) answer).quiet (quiet_freeStopped ..))).endRelease
      (.inl rfl)
  · exact .refl s

theorem isSettled_iff (s : State) : s.isSettled = true ↔
    s.engine.state = .settling ∧ ∃ g, s.engine.group = some g ∧ s.settleCount g = 0 := by
  unfold State.isSettled
  split
  · next g hs hg => simp [hs, hg]
  · next h =>
    simp only [Bool.false_eq_true, false_iff, not_and, not_exists]
    exact fun hs g hg => absurd hg (h g hs)

theorem sound_settleOn (s : State) : Sound s s.settleOn := by
  unfold State.settleOn
  split
  · next h =>
    obtain ⟨hs, -⟩ := (isSettled_iff s).mp h
    exact ⟨(fades_setEngine ..).trans (fades_walkOn _ (fades_endRelease ..)), fun h => coordinated_endSettling h hs
      fun t g ht hc => ht.endRelease (.inr (by simp [hc]))⟩
  · exact .refl s

/-! ## The events of the memory port (R98 to R101) and the judgement -/

theorem sound_handBack (s : State) (request : PortRequest) (answer : Answer) (data : Word) :
    Sound s (s.handBack request answer data) := by
  cases request with
  | passThrough r => exact (quiet_endPass s r answer data).sound.trans (sound_settleOn _)
  | release e => exact sound_writeEnded s answer

theorem sound_takeResponse (s : State) (t : TagId) (answer : Answer) (data : Word) :
    Sound s (s.takeResponse t answer data) := by
  rcases takeResponse_cases s t answer data with ⟨-, e⟩ | ⟨-, e⟩ | ⟨r, n, m, -, e⟩ <;> rw [e]
  · exact .refl s
  · exact ((quiet_setTag ..).trans (quiet_grantAll _)).sound
  · exact (sound_handBack ..).trans ((quiet_setTag ..).trans (quiet_grantAll _)).sound

theorem sound_timeOut (s : State) (t : TagId) : Sound s (s.timeOut t) := by
  rcases timeOut_cases s t with ⟨-, e⟩ | ⟨r, n, m, -, e⟩ <;> rw [e]
  · exact .refl s
  · exact (((quiet_setTag ..).trans (quiet_noteStuck _)).sound.trans (sound_handBack ..)).trans (quiet_grantAll _).sound

theorem sound_betweenBeats (s : State) : Sound s s.betweenBeats := by
  have between (s : State) (event : PortEvent) : Sound s (s.takeBetween event) := by
    rcases takeBetween_cases s event with e | ⟨t, answer, data, -, -, e⟩ | ⟨t, -, -, e⟩ <;> rw [e]
    · exact .refl s
    · exact sound_takeResponse ..
    · exact sound_timeOut ..
  unfold State.betweenBeats
  split
  · exact .refl s
  · exact (quiet_useFree s).sound.trans (.foldl between _ _)

/-! ## Marks and edges (R109 to R143) -/

theorem fades_lowerOne (m : Mark) (fires : GroupId → Bool) (s : State) (g : GroupId) :
    Fades s (State.lowerOne m fires s g) := by
  unfold State.lowerOne
  split
  · refine fades_setGroup (.inl ?_)
    unfold GroupRecord.lowerDeadline
    split <;> rfl
  · exact .refl s

theorem fades_markNotice (fires : GroupId → Bool) (s : State) (g : GroupId) :
    Fades s (State.markNotice fires s g) := by
  unfold State.markNotice
  split
  · exact fades_firingNotice ..
  · exact fades_expiryNotice ..

theorem lowerDeadline_state (r : GroupRecord) : r.lowerDeadline.state = r.state := by
  unfold GroupRecord.lowerDeadline
  split <;> rfl

/-- R138: the first step of a mark leaves late deadlines only in groups that the mark does not fire. -/
theorem Agree.lowerOne {held : GroupId → Prop} {fires : GroupId → Bool}
    (h : Agree (fun k => fires k = false) held s) (m : Mark) (g : GroupId) :
    Agree (fun k => fires k = false) held (State.lowerOne m fires s g) := by
  unfold State.lowerOne
  split
  · next hm =>
    have hf : fires g = false := by simpa using (Bool.and_eq_true_iff.mp hm).2
    have hs := lowerDeadline_state (s.group g)
    exact (h.setGroup (q := s.launchQueue) ((h.records g).lowerDeadline hf) (fun _ _ => id) h.queue.1
      (hs ▸ h.queue.2 g) (fun _ _ => Iff.rfl) (hs ▸ h.releasing g) fun _ _ => Iff.rfl).of_eq (fun _ => rfl) rfl
  · exact h

/-- R25: after its expiry notice a group is not ARMED with a deadline of 0. -/
theorem not_expires_expiryNotice (s : State) (g : GroupId) : ¬ Expires (s.expiryNotice g) g := by
  rintro ⟨ha, hd⟩
  rcases expiryNotice_cases s g with ⟨he, e⟩ | ⟨-, -, e⟩ | ⟨-, -, e⟩ <;> rw [e] at ha hd
  · simp [GroupRecord.expired, ha, hd] at he
  · simp at ha
  · rw [group_breakSuccessors] at ha
    split at ha
    · simp [GroupRecord.toClosed] at ha
    · simp [emptyGroup_eq, GroupRecord.toIdle] at ha

/-- R25: after its own notice the deadline of a group is not late. -/
theorem Agree.markNotice {late held : GroupId → Prop} {fires : GroupId → Bool} (h : Agree late held s) {g : GroupId}
    (hl : late g → fires g = false) : Agree (fun k => late k ∧ k ≠ g) held (State.markNotice fires s g) := by
  have hn : Agree late held (State.markNotice fires s g) := by
    unfold State.markNotice
    split
    · exact h.firingNotice g
    · exact h.expiryNotice g
  refine ⟨fun k => ?_, hn.queue, hn.releasing⟩
  by_cases hk : k = g
  · subst hk
    refine { hn.records k with loaded := fun ha hd => ?_ }
    obtain ⟨n, e, h0, hle⟩ := (hn.records k).loaded ha hd
    refine ⟨n, e, ?_, hle⟩
    rintro rfl
    simp only [State.markNotice, hl (h0 rfl), Bool.false_eq_true, if_false] at ha e
    exact absurd ⟨ha, e⟩ (not_expires_expiryNotice s k)
  · exact (hn.records k).mono fun hl => ⟨hl, hk⟩

/-- R138, R139: all notices of a mark, acted on one after another. -/
theorem Agree.markNotices {held : GroupId → Prop} {fires : GroupId → Bool} (l : List GroupId) {s : State}
    (h : Agree (fun k => fires k = false ∧ k ∈ l) held s) : Agree noGroup held (l.foldl (State.markNotice fires) s) := by
  induction l generalizing s with
  | nil => exact h.mono (by simp)
  | cons g l ih =>
    refine ih ((h.markNotice (g := g) fun h => h.1).mono ?_)
    rintro k ⟨⟨hf, hm⟩, hk⟩
    exact ⟨hf, (List.mem_cons.mp hm).resolve_left hk⟩

theorem lowerOne_rest (m : Mark) (fires : GroupId → Bool) (s : State) (g : GroupId) :
    (State.lowerOne m fires s g).engine = s.engine ∧ (State.lowerOne m fires s g).fencedOn = s.fencedOn := by
  unfold State.lowerOne
  split <;> exact ⟨rfl, rfl⟩

theorem markNotice_rest (fires : GroupId → Bool) (s : State) (g : GroupId) :
    (State.markNotice fires s g).engine = s.engine ∧ (State.markNotice fires s g).fencedOn = s.fencedOn := by
  unfold State.markNotice
  split
  · rw [firingNotice_eq]
    exact ⟨rfl, rfl⟩
  · rcases expiryNotice_cases s g with ⟨-, e⟩ | ⟨-, -, e⟩ | ⟨-, -, e⟩ <;> rw [e]
    · exact ⟨rfl, rfl⟩
    · exact ⟨rfl, rfl⟩
    · rw [breakSuccessors_rest]
      exact ⟨rfl, rfl⟩

/-- A fold of operations that leave the engine and the fence alone. -/
theorem foldl_rest {f : State → GroupId → State}
    (h : ∀ s g, (f s g).engine = s.engine ∧ (f s g).fencedOn = s.fencedOn) (l : List GroupId) (s : State) :
    (l.foldl f s).engine = s.engine ∧ (l.foldl f s).fencedOn = s.fencedOn := by
  induction l generalizing s with
  | nil => exact ⟨rfl, rfl⟩
  | cons g l ih => exact ⟨(ih _).1.trans (h s g).1, (ih _).2.trans (h s g).2⟩

/-- The groups and the launch queue change while the engine and the fence stay. -/
theorem coordinated_of_agree (h : Coordinated s) (ha : Agree noGroup s.engine.Holds t)
    (hr : t.engine = s.engine ∧ t.fencedOn = s.fencedOn) : Coordinated t := by
  refine coordinated_iff.mpr ⟨hr.1 ▸ ha, hr.1 ▸ h.context, fun k hk => ?_⟩
  exact (ha.releasing k).mpr ((h.releasing k).mp (h.fence k (hr.2 ▸ hk)))

theorem sound_takeMark (s : State) (m : Mark) : Sound s (s.takeMark m) := by
  refine Sound.trans ⟨(Fades.foldl (fades_lowerOne m (s.markFires m)) allGroups s).trans
    (.foldl (fades_markNotice (s.markFires m)) allGroups _), fun h => ?_⟩ (sound_takeIfAppended ..)
  have hl : Agree (fun k => s.markFires m k = false) s.engine.Holds
      (allGroups.foldl (State.lowerOne m (s.markFires m)) s) :=
    List.foldlRecOn _ _ ((coordinated_agree h).mono fun _ => False.elim) fun t ht g _ => ht.lowerOne m g
  have hn := Agree.markNotices allGroups (hl.mono fun k hk => ⟨hk, mem_allGroups k⟩)
  obtain ⟨he, hf⟩ := foldl_rest (lowerOne_rest m (s.markFires m)) allGroups s
  obtain ⟨he', hf'⟩ := foldl_rest (markNotice_rest (s.markFires m)) allGroups _
  exact coordinated_of_agree h hn ⟨he'.trans he, hf'.trans hf⟩

theorem sound_handMark (s : State) (kind : MarkKind) : Sound s (s.handMark kind) := sound_takeMark ..

/-- A change of the timebase, the mark it makes, and the record that may come between them. -/
theorem sound_marked (s : State) (b : Timebase) (kind : MarkKind) : Sound s ((s.setTimebase b).handMark kind) :=
  (quiet_setTimebase ..).sound.trans (sound_handMark ..)

theorem sound_recorded (s : State) (b : Timebase) (record : RecordKind) (kind : MarkKind) :
    Sound s (((s.setTimebase b).offerPlain record none).handMark kind) :=
  ((quiet_setTimebase ..).trans (quiet_offerPlain ..)).sound.trans (sound_handMark ..)

theorem sound_expireLine (s : State) : Sound s s.expireLine := by
  have generated : Sound s s.generatedFrame := by
    unfold State.generatedFrame
    split
    · exact sound_recorded ..
    · exact sound_marked ..
  have line : Sound s s.lineOrNothing := by
    unfold State.lineOrNothing
    split
    · exact (quiet_setTimebase ..).sound
    · exact sound_marked ..
  unfold State.expireLine
  split
  · split
    · exact generated
    · exact line
  · exact line

theorem sound_takeFsync (s : State) : Sound s s.takeFsync := by
  unfold State.takeFsync
  split
  · exact .refl s
  · exact .refl s
  · exact sound_marked ..
  · exact sound_marked ..
  · exact sound_recorded ..

theorem sound_takeTrig (s : State) : Sound s s.takeTrig := by
  refine Sound.trans ⟨fades_fireGroups .., fun h => ?_⟩ (sound_takeIfAppended ..)
  refine coordinated_of_agree h ((coordinated_agree h).fireGroups _) (foldl_rest (fun s g => ?_) _ _)
  rw [firingNotice_eq]
  exact ⟨rfl, rfl⟩

theorem sound_sampleEdge (s : State) (missed : Bool) (low high : Nat) {note : State → Bool → State} {edge : State → State}
    (hn : ∀ s b, Quiet s (note s b)) (h : ∀ s, Sound s (edge s)) : Sound s (s.sampleEdge missed low high note edge) := by
  unfold State.sampleEdge
  split
  · exact (hn ..).sound.trans (h _)
  · split
    · exact ((quiet_useFree s).trans (hn ..)).sound.trans (h _)
    · exact ((quiet_useFree s).trans (hn ..)).sound

theorem sound_whenRunning (s : State) {event : State → State} (h : ∀ s, Sound s (event s)) :
    Sound s (s.whenRunning event) := by
  unfold State.whenRunning
  split
  · exact h s
  · exact .refl s

theorem sound_setClk (s : State) (b : Bool) : Sound s (s.setClk b) :=
  ⟨⟨fun _ => .inl rfl⟩, fun h => ⟨h.records, h.context, h.releasing, h.queue, h.fence⟩⟩

/-! ## One CLK period (R89, R99, R100, R109) -/

theorem sound_idle (s : State) : Sound s s.idle := by
  have due (s : State) (t : TagId) : Sound s (s.timeOutIfDue t) := by
    rcases timeOutIfDue_cases s t with ⟨-, e⟩ | ⟨-, e⟩ <;> rw [e]
    · exact sound_timeOut ..
    · exact .refl s
  have tbclk (s : State) : Sound s s.tbclkMayAdvance := by
    unfold State.tbclkMayAdvance
    split
    · refine (quiet_useFree s).sound.trans ?_
      rcases tbclkPeriod_cases s.useFree with ⟨-, e⟩ | ⟨-, e⟩ <;> rw [e]
      · exact (quiet_setTimebase ..).sound
      · exact (quiet_setTimebase ..).sound.trans (sound_expireLine _)
    · exact (quiet_useFree s).sound
  have period (s : State) : Sound s s.clockPeriod :=
    (((sound_takeNext s).trans (quiet_setPort ..).sound).trans (.foldl due _ _)).trans (tbclk _)
  exact ((quiet_useFree s).sound.trans (sound_setClk ..)).trans (sound_whenRunning _ period)

end Sys2Proof.Machine
end

section
/-!
Every command keeps the launch side coordinated and free of cycles (R3, R15, R26, R64, R80, R145).
-/
namespace Sys2Proof.Machine

open Safety

variable {s t u : State} {g : GroupId}

/-! ## The group commands (R10 to R21) -/

/-- A group is given a record in a state in which it rests, having rested before. -/
theorem coordinated_setGroup (h : Coordinated s) {r : GroupRecord} (hr : RecordShape False r)
    (hs : (s.group g).state ≠ .pending ∧ (s.group g).state ≠ .releasing) (ht : r.state ≠ .pending ∧ r.state ≠ .releasing) :
    Coordinated (s.setGroup g r) :=
  coordinated_of_agree h ((coordinated_agree h).setGroup_resting hr hs ht) ⟨rfl, rfl⟩

theorem coordinated_shape (h : Coordinated s) (g : GroupId) : RecordShape False (s.group g) := (coordinated_agree h).records g

theorem groupConfigOf_bounds {f : Frame} {c : GroupConfig} (h : groupConfigOf f = some c) :
    c.repeats ≤ 255 ∧ c.deadline ≤ 255 := by
  have byte (b : Byte) : b.toNat ≤ 255 := Nat.le_of_lt_succ b.isLt
  unfold groupConfigOf at h
  split at h
  · split at h
    · cases h
      exact ⟨byte _, byte _⟩
    · cases h
  · cases h

theorem sound_groupConfigReply (f : Frame) (s : State) (g : GroupId) : Sound s (groupConfigReply f s g).state := by
  unfold groupConfigReply
  split
  · exact .refl s
  · next c hc =>
    split
    · next hs =>
      obtain ⟨hr, hd⟩ := groupConfigOf_bounds hc
      exact ⟨fades_setGroup (.inl rfl), fun h => coordinated_setGroup h ((coordinated_shape h g).configured hs hr hd)
        (by simp [hs]) (by simp [hs])⟩
    · exact .refl s

theorem sound_groupOpenReply (s : State) (g : GroupId) : Sound s (groupOpenReply s g).state := by
  unfold groupOpenReply
  split
  case h_1 hs =>
    exact ⟨fades_setGroup (.inl rfl), fun h => coordinated_setGroup h ((coordinated_shape h g).openFromIdle hs)
      (by simp [hs]) (by simp [GroupRecord.openFromIdle])⟩
  case h_2 hs =>
    exact ⟨fades_setGroup (.inl rfl), fun h => coordinated_setGroup h ((coordinated_shape h g).reopen hs)
      (by simp [hs]) (by simp [GroupRecord.reopen])⟩
  all_goals exact .refl s

theorem sound_groupCloseReply (f : Frame) (s : State) (g : GroupId) : Sound s (groupCloseReply f s g).state := by
  unfold groupCloseReply
  split
  · exact .refl s
  · split
    · next hs =>
      split
      · exact .refl s
      · exact ⟨fades_setGroup (.inl rfl), fun h => coordinated_setGroup h ((coordinated_shape h g).close hs)
          (by simp [hs]) (by simp [GroupRecord.close])⟩
    · exact .refl s

/-- R9: the breaking of successors leaves the engine and the fence alone. -/
theorem breakSuccessors_engine (s : State) (g : GroupId) :
    (s.breakSuccessors g).engine = s.engine ∧ (s.breakSuccessors g).fencedOn = s.fencedOn := by
  rw [breakSuccessors_rest]
  exact ⟨rfl, rfl⟩

theorem sound_groupDisarmReply (s : State) (g : GroupId) : Sound s (groupDisarmReply s g).state := by
  unfold groupDisarmReply
  split
  case h_1 hs =>
    refine ⟨(fades_setGroup (.inr rfl)).trans (fades_breakSuccessors ..), fun h => ?_⟩
    exact coordinated_of_agree h (((coordinated_agree h).setGroup_resting ((coordinated_shape h g).toClosed (by simp [hs]))
      (by simp [hs]) (by simp [GroupRecord.toClosed])).breakSuccessors g) (breakSuccessors_engine ..)
  case h_2 hs =>
    refine ⟨((fades_setGroup (.inr (by rfl))).trans (fades_setLaunchQueue ..)).trans (fades_breakSuccessors ..), fun h => ?_⟩
    exact coordinated_of_agree h (((coordinated_agree h).withdraw hs ((coordinated_shape h g).toClosed (by simp [hs]))
      (by simp [GroupRecord.toClosed])).breakSuccessors g) (breakSuccessors_engine ..)
  all_goals exact .refl s

theorem fades_makePending (s : State) (g : GroupId) : Fades s (s.makePending g) :=
  (fades_setGroup (r := (s.group g).toPending) (.inl rfl)).trans (fades_setLaunchQueue ..)

theorem sound_groupLaunchReply (s : State) (g : GroupId) : Sound s (groupLaunchReply s g).state := by
  unfold groupLaunchReply
  split
  · next hs =>
    have made : Sound s (s.makePending g) := ⟨fades_makePending s g, fun h =>
      coordinated_of_agree h ((coordinated_agree h).launch hs ((coordinated_shape h g).toPending hs) rfl) ⟨rfl, rfl⟩⟩
    exact made.trans (sound_takeIfAppended ..)
  · exact .refl s

theorem coordinated_armGroup (h : Coordinated s) (hs : (s.group g).state = .closed ∨ (s.group g).state = .faulted)
    (c : LaunchCondition) : Coordinated (s.armGroup g c) := by
  have armed (c : LaunchCondition) : Coordinated (s.modifyGroup g (GroupRecord.arm c)) :=
    coordinated_setGroup h ((coordinated_shape h g).arm hs c) (by rcases hs with hs | hs <;> simp [hs])
      (by simp [GroupRecord.arm])
  have hstate : ((s.modifyGroup g (GroupRecord.arm .immediate)).group g).state = .armed := by
    simp [State.modifyGroup, GroupRecord.arm]
  have made (h : Coordinated (s.modifyGroup g (GroupRecord.arm .immediate))) :
      Coordinated ((s.modifyGroup g (GroupRecord.arm .immediate)).makePending g) :=
    coordinated_of_agree h ((coordinated_agree h).launch hstate ((coordinated_shape h g).toPending hstate) rfl) ⟨rfl, rfl⟩
  unfold State.armGroup
  split
  · exact (sound_takeIfAppended ..).coordinated (made (armed _))
  · exact armed _

/-- R15: GROUP_ARM leaves no group waiting on itself. -/
theorem afterAcyclic_armGroup (h : AfterAcyclic s) {c : LaunchCondition} (hc : s.armCheck g c = none) :
    AfterAcyclic (s.armGroup g c) := by
  have armed (c : LaunchCondition) (hc : ∀ k, c = .after k → ¬ Relation.ReflTransGen (IsAfter s) k g) :
      AfterAcyclic (s.modifyGroup g (GroupRecord.arm c)) :=
    afterAcyclic_setGroup h fun k hk => hc k (Option.some_inj.mp hk)
  unfold State.armGroup
  split
  · exact afterAcyclic_fades (armed .immediate fun k hk => by cases hk)
      ((fades_makePending ..).trans (sound_takeIfAppended ..).fades)
  · refine armed c ?_
    rintro k rfl
    rw [← chainReaches_nine_iff]
    simp only [State.armCheck] at hc
    split at hc
    · next hk => simpa using (Bool.and_eq_true_iff.mp hk).2
    · cases hc

theorem sound_stopByDiscard (s : State) : Sound s s.stopByDiscard := by
  have atOnce (hs : s.engine.state = .settling ∨ s.engine.state = .draining) : Sound s s.stopAtOnce := by
    refine ⟨((fades_setEngine ..).trans (fades_endRelease ..)).trans (quiet_grantAll _).fades, fun h => ?_⟩
    obtain ⟨hc, g, hg⟩ := coordinated_inHand_of_state h hs
    have stopped : InHand (s.setEngine
        { s.engine with state := .stopping, write := .none, copy := none, cause := some .discard }) g :=
      hg.setEngine hg.group (by simp [hc])
    exact coordinated_quiet (stopped.endRelease (.inl rfl)) (quiet_grantAll _)
  unfold State.stopByDiscard
  split
  case h_1 hs => exact atOnce (.inl hs)
  case h_2 hs hw =>
    refine ⟨fades_setEngine .., fun h => ?_⟩
    obtain ⟨h1, h2, h3, h4⟩ := (contextWellFormed_draining hs).mp h.context
    exact coordinated_setEngine h ((contextWellFormed_stopping rfl).mpr ⟨h1, h2, rfl, h4.mpr (by simp [hw]), hw⟩)
      fun k => by simp [Engine.Holds, h3]
  case h_3 hs _ => exact atOnce (.inr hs)
  case h_4 hs _ => exact atOnce (.inr hs)
  all_goals exact .refl s

theorem sound_discard (s : State) (g : GroupId) : Sound s (s.discard g) := by
  have emptied (hs : (s.group g).state ≠ .pending ∧ (s.group g).state ≠ .releasing) : Sound s (s.emptyGroup g) :=
    ⟨fades_emptyGroup .., fun h => coordinated_of_agree h ((coordinated_agree h).emptyGroup hs) ⟨rfl, rfl⟩⟩
  unfold State.discard
  split
  case h_1 => exact .refl s
  case h_2 hs => exact emptied (by simp [hs])
  case h_3 hs => exact emptied (by simp [hs])
  case h_4 hs =>
    exact ⟨(fades_emptyGroup ..).trans (fades_breakSuccessors ..), fun h => coordinated_of_agree h
      (((coordinated_agree h).emptyGroup (by simp [hs])).breakSuccessors g) (breakSuccessors_engine ..)⟩
  case h_5 hs =>
    refine ⟨((fades_emptyGroup ..).trans (fades_setLaunchQueue ..)).trans (fades_breakSuccessors ..), fun h => ?_⟩
    exact coordinated_of_agree h ((((coordinated_agree h).quiet (quiet_setFree s (s.free + (s.group g).entries.length))).withdraw hs
      (coordinated_shape h g).toIdle (by simp [GroupRecord.toIdle])).breakSuccessors g) (breakSuccessors_engine ..)
  case h_6 =>
    split
    · exact sound_stopByDiscard s
    · exact .refl s
  case h_7 hs => exact emptied (by simp [hs])

/-! ## SOFT_RESET and the resets (R6, R7, R92, R177) -/

theorem contextWellFormed_softReset {e : Engine} (h : ContextWellFormed e) :
    ContextWellFormed e.softReset ∧ ∀ g, ¬ e.softReset.Holds g := by
  unfold Engine.softReset
  split
  case h_1 hs => simpa [Engine.Holds, h.1 hs] using contextWellFormed_idle
  case h_3 hs hw =>
    obtain ⟨h1, h2, -, h4⟩ := (contextWellFormed_draining hs).mp h
    exact ⟨(contextWellFormed_stopping rfl).mpr ⟨h1, h2, rfl, h4.mpr (by simp [hw]), hw⟩, by simp [Engine.Holds]⟩
  case h_6 hs =>
    obtain ⟨h1, h2, -, h4, h5⟩ := (contextWellFormed_stopping hs).mp h
    exact ⟨(contextWellFormed_stopping (by exact hs)).mpr ⟨h1, h2, rfl, h4, h5⟩, by simp [Engine.Holds]⟩
  all_goals exact ⟨contextWellFormed_idle, by simp [Engine.Holds]⟩

theorem softReset_group (s : State) (g : GroupId) : s.softReset.group g = (s.group g).softReset := by
  simp [State.softReset, State.group, State.setCompletions, State.setReported]

theorem sound_softReset (s : State) : Sound s s.softReset := by
  refine ⟨⟨fun g => .inr (by rw [softReset_group]; rfl)⟩, fun h => ?_⟩
  obtain ⟨hc, hh⟩ := contextWellFormed_softReset h.context
  have hs (g : GroupId) : (s.softReset.group g).state = .idle := by rw [softReset_group]; rfl
  refine coordinated_iff.mpr ⟨⟨fun g => softReset_group s g ▸ (coordinated_shape h g).softReset, ⟨List.nodup_nil, fun g => ?_⟩,
    fun g => iff_of_false (by simp [hs]) (hh g)⟩, hc, fun g hg => ?_⟩
  · exact iff_of_false List.not_mem_nil (by simp [hs])
  · cases hg

/-- R6, R80, R127: a part right after reset, whatever else it holds. -/
theorem coordinated_of_reset (hg : ∀ g, t.group g = {}) (he : t.engine = {}) (hq : t.launchQueue = [])
    (hf : t.fencedOn = none) : Coordinated t := by
  refine coordinated_iff.mpr ⟨⟨fun g => hg g ▸ RecordShape.default, ?_, fun g => ?_⟩,
    he ▸ contextWellFormed_idle, fun g e => absurd (hf.symm.trans e) (by simp)⟩
  · exact ⟨hq ▸ List.nodup_nil, fun g => by simp [hq, hg]⟩
  · simp [hg, he, Engine.Holds]

theorem sound_of_reset (s : State) (hg : ∀ g, t.group g = {}) (he : t.engine = {}) (hq : t.launchQueue = [])
    (hf : t.fencedOn = none) : Sound s t :=
  ⟨⟨fun g => .inr (by rw [hg])⟩, fun _ => coordinated_of_reset hg he hq hf⟩

theorem sound_enterReset (s u : State) : Sound s u.enterReset := by
  refine sound_of_reset s (fun g => ?_) rfl rfl rfl
  simp [State.enterReset, State.group]

/-! ## The commands as frames -/

theorem sound_takeFrame (s : State) (code : Byte) (f : Frame) {act : State → Reply} (h : ∀ s, Sound s (act s).state) :
    Sound s (s.takeFrame code f act) := by
  rcases s.takeFrame_cases code f act with e | ⟨l, e⟩ | ⟨l, e⟩ <;> rw [e]
  · exact .refl s
  · exact (quiet_setLink s l).sound
  · exact ((quiet_setLink ..).sound.trans (h _)).trans (quiet_setLink ..).sound

theorem sound_withIndex {n : Nat} (f : Frame) (s : State) {act : Fin n → Reply} (h : ∀ i, Sound s (act i).state) :
    Sound s (withIndex n f s act).state := by
  rcases withIndex_cases n f s act with e | ⟨i, e⟩ <;> rw [e]
  · exact .refl s
  · exact h i

/-! ## Every command but GROUP_ARM -/

theorem isWalked_iff (s : State) : s.isWalked = true ↔
    s.engine.state = .draining ∧ s.engine.write = .none ∧ s.nextEntry = none := by
  simp [State.isWalked, and_assoc]

theorem sound_completion (s : State) : Sound s (if s.isWalked then (s.endRelease .complete).grantAll else s) := by
  split
  · next hw =>
    obtain ⟨hs, -⟩ := (isWalked_iff s).mp hw
    refine ⟨(fades_endRelease ..).trans (quiet_grantAll _).fades, fun h => ?_⟩
    obtain ⟨hc, g, hg⟩ := coordinated_inHand_of_state h (.inr hs)
    exact coordinated_quiet (hg.endRelease (.inr (by simp [hc]))) (quiet_grantAll _)
  · exact .refl s

theorem sound_deadline (s : State) (g : GroupId) : Sound s ((s.expiryNotice g).takeIfAppended s.launchQueue.length) := by
  refine Sound.trans ⟨fades_expiryNotice .., fun h => ?_⟩ (sound_takeIfAppended ..)
  refine coordinated_of_agree h ((coordinated_agree h).expiryNotice g) ?_
  rcases expiryNotice_cases s g with ⟨-, e⟩ | ⟨-, -, e⟩ | ⟨-, -, e⟩ <;> rw [e]
  · exact ⟨rfl, rfl⟩
  · exact ⟨rfl, rfl⟩
  · exact breakSuccessors_engine ..

theorem sound_queuePopReply (s : State) : Sound s (queuePopReply s).state := by
  unfold queuePopReply
  split
  · exact .refl s
  · exact ((quiet_setCompletions ..).trans (quiet_setReported ..)).sound

theorem sound_groupArmReply (f : Frame) (s : State) (g : GroupId) :
    (Coordinated s → Coordinated (groupArmReply f s g).state) ∧ (AfterAcyclic s → AfterAcyclic (groupArmReply f s g).state) := by
  unfold groupArmReply
  split
  · exact ⟨id, id⟩
  · split
    · next hs =>
      have hs : (s.group g).state = .closed ∨ (s.group g).state = .faulted := by
        revert hs
        cases (s.group g).state <;> simp [GroupState.canArm]
      split
      · exact ⟨id, id⟩
      · next hc => exact ⟨fun h => coordinated_armGroup h hs _, fun h => afterAcyclic_armGroup h hc⟩
    · exact ⟨id, id⟩

/-- R9, R15: every command but GROUP_ARM only takes conditions away, and keeps the launch side coordinated. -/
theorem sound_exec {c : Instr} (hc : ∀ f, c ≠ .groupArm f) (h : exec c s = .next t) : Sound s t := by
  cases c
  case groupArm f => exact absurd rfl (hc f)
  case nop f => cases h; exact sound_takeFrame s _ f Sound.refl
  case bridgeStatus f => cases h; exact sound_takeFrame s _ f Sound.refl
  case softReset f => cases h; exact sound_takeFrame s _ f sound_softReset
  case groupConfig f => cases h; exact sound_takeFrame s _ f fun s => sound_withIndex f s (sound_groupConfigReply f s)
  case groupOpen f => cases h; exact sound_takeFrame s _ f fun s => sound_withIndex f s (sound_groupOpenReply s)
  case groupClose f => cases h; exact sound_takeFrame s _ f fun s => sound_withIndex f s (sound_groupCloseReply f s)
  case groupDisarm f => cases h; exact sound_takeFrame s _ f fun s => sound_withIndex f s (sound_groupDisarmReply s)
  case groupLaunch f => cases h; exact sound_takeFrame s _ f fun s => sound_withIndex f s (sound_groupLaunchReply s)
  case groupDiscard f => cases h; exact sound_takeFrame s _ f fun s => sound_withIndex f s (sound_discard s)
  case groupStatus f => cases h; exact sound_takeFrame s _ f fun s => sound_withIndex f s fun _ => .refl s
  case entryRead f =>
    cases h
    refine sound_takeFrame s _ f fun s => sound_withIndex f s fun g => ?_
    unfold entryReadReply
    split <;> exact .refl s
  case windowSet f =>
    cases h
    refine sound_takeFrame s _ f fun s => sound_withIndex f s fun w => ?_
    unfold windowSetReply
    split
    · exact .refl s
    · split
      · exact .refl s
      · exact (quiet_setWindow ..).sound
  case windowClear f =>
    cases h
    refine sound_takeFrame s _ f fun s => sound_withIndex f s fun w => ?_
    unfold windowClearReply
    split
    · exact .refl s
    · exact (quiet_setWindow ..).sound
  case windowRead f => cases h; exact sound_takeFrame s _ f fun s => sound_withIndex f s fun _ => .refl s
  case pointSet f =>
    cases h
    refine sound_takeFrame s _ f fun s => sound_withIndex f s fun p => ?_
    unfold pointSetReply
    split
    · exact .refl s
    · exact (quiet_setPoint ..).sound
  case pointRead f => cases h; exact sound_takeFrame s _ f fun s => sound_withIndex f s fun _ => .refl s
  case timebaseConfig f =>
    cases h
    refine sound_takeFrame s _ f fun s => ?_
    unfold timebaseConfigReply
    split
    · exact .refl s
    · exact (quiet_setTimebase ..).sound
  case timebaseRead f => cases h; exact sound_takeFrame s _ f Sound.refl
  case timebaseLoad f => cases h; exact sound_takeFrame s _ f fun s => (quiet_setTimebase ..).sound
  case portConfig f =>
    cases h
    refine sound_takeFrame s _ f fun s => ?_
    unfold portConfigReply
    split
    · exact .refl s
    · exact (quiet_setPort ..).sound
  case queuePop f => cases h; exact sound_takeFrame s _ f sound_queuePopReply
  case irqConfig f =>
    cases h
    refine sound_takeFrame s _ f fun s => ?_
    unfold irqConfigReply
    split
    · exact .refl s
    · exact (quiet_setCompletions ..).sound
  case unknownCmd code f =>
    simp only [exec, execUnknownCmd] at h
    split at h
    · cases h
    · cases h; exact sound_takeFrame s _ f Sound.refl
  case frameWithoutCompleteByte bits =>
    cases h
    unfold State.takeShortFrame
    split
    · exact .refl s
    · split <;> exact (quiet_setLink ..).sound
  case powerOnReset => cases h; exact sound_enterReset ..
  case rstN n =>
    cases h
    unfold State.lowerResetPin
    split
    · exact .refl s
    · split
      · exact sound_enterReset ..
      · split
        · exact sound_enterReset ..
        · exact (quiet_useFree s).sound
  case acceptance x =>
    simp only [exec, execAcceptance] at h
    split at h
    · cases h; exact sound_whenRunning s fun s => (quiet_acceptTransaction s x).sound
    · cases h
  case judgement => cases h; exact sound_whenRunning s fun s => sound_judge s sound_betweenBeats
  case transactionResponse => cases h; exact sound_whenRunning s fun s => (quiet_respond s).sound
  case grant => cases h; exact sound_whenRunning s fun s => (quiet_grantOne s).sound
  case response t answer data => cases h; exact sound_whenRunning s fun s => sound_takeResponse s t answer data
  case responseTimeout t => cases h; exact sound_whenRunning s fun s => sound_timeOut s t
  case taking => cases h; exact sound_whenRunning s sound_takeNext
  case settlingEnd =>
    cases h
    refine sound_whenRunning s fun s => ?_
    split
    · exact (sound_settleOn s).trans (quiet_grantAll _).sound
    · exact .refl s
  case releaseCompletion => cases h; exact sound_whenRunning s sound_completion
  case lineTimerExpiry => cases h; exact sound_whenRunning s sound_expireLine
  case fsyncEdge low high =>
    cases h
    exact sound_whenRunning s fun s => sound_sampleEdge s _ low high (fun _ _ => quiet_setMissed ..) sound_takeFsync
  case trigEdge low high =>
    cases h
    refine sound_whenRunning s fun s => ?_
    split
    · exact .refl s
    · exact (quiet_setTrigLevel ..).sound.trans
        (sound_sampleEdge _ _ low high (fun _ _ => quiet_setMissed ..) sound_takeTrig)
  case deadlineExpiry g => cases h; exact sound_whenRunning s fun s => sound_deadline s g
  case resetRelease trigHigh csLow =>
    cases h
    split
    · exact ⟨⟨fun _ => .inl rfl⟩, fun h => ⟨h.records, h.context, h.releasing, h.queue, h.fence⟩⟩
    · exact .refl s

/-- R15: GROUP_ARM keeps the launch side coordinated and lets no group wait on itself. -/
theorem kept_execGroupArm (f : Frame) (h : exec (.groupArm f) s = .next t) :
    (Coordinated s → Coordinated t) ∧ (AfterAcyclic s → AfterAcyclic t) := by
  cases h
  have reply (s : State) : (Coordinated s → Coordinated (withIndex 8 f s (groupArmReply f s)).state) ∧
      (AfterAcyclic s → AfterAcyclic (withIndex 8 f s (groupArmReply f s)).state) := by
    rcases withIndex_cases 8 f s (groupArmReply f s) with e | ⟨g, e⟩ <;> rw [e]
    · exact ⟨id, id⟩
    · exact sound_groupArmReply f s g
  have link {s : State} (l : ControlLink) : Sound s (s.setLink l) := (quiet_setLink s l).sound
  rcases s.takeFrame_cases 0x13 f fun s => withIndex 8 f s (groupArmReply f s) with e | ⟨l, e⟩ | ⟨l, e⟩ <;> rw [e]
  · exact ⟨id, id⟩
  · exact ⟨(link l).coordinated, fun h => afterAcyclic_fades h (link l).fades⟩
  · exact ⟨fun h => (link l).coordinated ((reply _).1 ((link _).coordinated h)),
      fun h => afterAcyclic_fades ((reply _).2 (afterAcyclic_fades h (link _).fades)) (link l).fades⟩

/-- One step keeps the launch side coordinated and free of cycles. -/
theorem kept_step (h : step s = .next t) : (Coordinated s → Coordinated t) ∧ (AfterAcyclic s → AfterAcyclic t) := by
  unfold step at h
  split at h
  · cases h
    exact ⟨(sound_idle s).coordinated, fun h => afterAcyclic_fades h (sound_idle s).fades⟩
  · next c rest _ =>
    have popped : Coordinated s → Coordinated { s with pending := rest } :=
      fun h => ⟨h.records, h.context, h.releasing, h.queue, h.fence⟩
    by_cases hc : ∃ f, c = .groupArm f
    · obtain ⟨f, rfl⟩ := hc
      obtain ⟨h1, h2⟩ := kept_execGroupArm f h
      exact ⟨h1 ∘ popped, h2⟩
    · have hs := sound_exec (fun f e => hc ⟨f, e⟩) h
      exact ⟨hs.coordinated ∘ popped, fun h => afterAcyclic_fades (s := { s with pending := rest }) h hs.fades⟩

/-- Settles O54, by what each operation of the part does to the launch side. -/
theorem groupsQueueEngineAndFenceAgree : Obligations.GroupsQueueEngineAndFenceAgree := by
  unfold Obligations.GroupsQueueEngineAndFenceAgree
  exact ⟨fun s t hs h => (kept_step h).1 hs, fun s t hs h => (kept_step h).2 hs⟩

end Sys2Proof.Machine
end

section
/-!
The group commands, one by one: their refusals, their effect on the record, and that nothing else changes (R10 to R23).
-/
namespace Sys2Proof.Machine

open Safety

/-! ## Commands that name a group -/

/-- R10, R166: a command whose index names something acts on it, and its result replaces the result buffer. -/
theorem next_takeFrame_indexed {s t : State} (h : LinkReady s) {code : Byte} {f : Frame}
    (hl : (frameLength code).getD 1 ≤ f.length) {n : Nat} {i : Fin n} (hi : (f.byte 1).toNat = i.val)
    {act : State → Fin n → Reply} {result : List Byte}
    (ha : act (s.receive code f) i = ⟨t.setLink (s.receive code f).link, result⟩) :
    (.next (s.takeFrame code f fun s => withIndex n f s (act s)) : Host.Outcome State Fault Refusal) =
      .next (afterFrame s t code f result) :=
  congrArg _ (State.takeFrame_reply h hl ((withIndex_of_eq hi).trans ha))

/-- R171: a command that is refused, or that only reports, changes nothing. -/
theorem next_takeFrame_indexed_same {s : State} (h : LinkReady s) {code : Byte} {f : Frame}
    (hl : (frameLength code).getD 1 ≤ f.length) {n : Nat} {i : Fin n} (hi : (f.byte 1).toNat = i.val)
    {act : State → Fin n → Reply} {result : List Byte}
    (ha : act (s.receive code f) i = ⟨s.receive code f, result⟩) :
    (.next (s.takeFrame code f fun s => withIndex n f s (act s)) : Host.Outcome State Fault Refusal) =
      .next (afterFrame s s code f result) :=
  next_takeFrame_indexed (t := s) h hl hi ha

/-- R10, R166: a command whose index names nothing is refused BAD_INDEX, whatever it would do. -/
theorem next_takeFrame_badIndex {s : State} (h : LinkReady s) {code : Byte} {f : Frame}
    (hl : (frameLength code).getD 1 ≤ f.length) {n : Nat} (hi : n ≤ (f.byte 1).toNat) (act : State → Fin n → Reply) :
    (.next (s.takeFrame code f fun s => withIndex n f s (act s)) : Host.Outcome State Fault Refusal) =
      .next (afterFrame s s code f [0x02]) :=
  congrArg _ (State.takeFrame_same h hl (withIndex_of_ge hi))

/-- Settles O10, command by command: the index check comes before any other. -/
theorem badIndexIsRefused : Obligations.BadIndexIsRefused := by
  unfold Obligations.BadIndexIsRefused
  intro s code f n h hn hl hi
  have hl' : (frameLength code).getD 1 ≤ f.length := by simpa [hn] using hl
  rcases hi with ⟨hc, hi⟩ | ⟨hc, hi⟩
  · simp only [List.mem_cons, List.not_mem_nil, or_false] at hc
    rcases hc with rfl | rfl | rfl | rfl | rfl | rfl | rfl | rfl | rfl | rfl | rfl <;>
      exact next_takeFrame_badIndex h hl' hi _
  · simp only [List.mem_cons, List.not_mem_nil, or_false] at hc
    rcases hc with rfl | rfl | rfl <;> exact next_takeFrame_badIndex h hl' hi _

variable {s : State} {f : Frame} {g : GroupId}

/-! ## GROUP_STATUS (R23, R187) -/

theorem conditionBytes_eq (c : Option LaunchCondition) : conditionBytes c =
    [yesNo c.isSome, (c.map fun c => c.code.1).getD 0x00, (c.map fun c => c.code.2).getD 0x00] := by
  cases c <;> rfl

theorem deadlineBytes_eq (d : Option Nat) : deadlineBytes d = [yesNo d.isSome, BitVec.ofNat 8 (d.getD 0)] := by
  cases d <;> rfl

theorem checkCodeBytes_eq (c : Option Word) : checkCodeBytes c = yesNo c.isSome :: bigEndian32 (c.getD 0).toNat := by
  cases c <;> exact congrArg _ (wordBytes_eq _)

/-- Settles O13: the index check is the only one, and the bytes are those of the record. -/
theorem groupStatusReturnsTheRecord : Obligations.GroupStatusReturnsTheRecord := by
  unfold Obligations.GroupStatusReturnsTheRecord
  refine ⟨fun s f h hl hi => next_takeFrame_badIndex h (by exact hl) hi _, fun s f g h hl hi => ?_⟩
  refine next_takeFrame_indexed_same h (by exact hl) hi ?_
  simp [report, GroupRecord.bytes, GroupConfig.bytes, countBytes_eq, halfBytes_eq, conditionBytes_eq, deadlineBytes_eq,
    checkCodeBytes_eq, flagBits_four, byteOf, Status.code]

/-! ## GROUP_CONFIG (R11, R185) -/

theorem filterOf_eq_none {b : Byte} (h : 15 < b.toNat) (h' : b.toNat < 255) : filterOf b = none := by
  unfold filterOf
  rw [dif_neg (Nat.not_lt.mpr h), if_neg]
  rintro rfl
  exact absurd h' (by decide)

/-- R185: a frame whose fields are the codes of a configuration carries it. -/
theorem groupConfigOf_eq_some {c : GroupConfig} (hm : c.mode.code = f.byte 2) (hc : c.cap = (f.half 3).toNat)
    (h1 : 1 ≤ c.cap) (h2 : c.cap ≤ 1024) (ho : c.overflow.code = f.byte 5) (hf : filterCode c.filter = f.byte 6)
    (he : c.errorPolicy.code = f.byte 7) (hr : c.repeats = (f.byte 8).toNat) (hd : c.deadline = (f.byte 9).toNat)
    (ha : c.deadlineAction.code = f.byte 10) : groupConfigOf f = some c := by
  unfold groupConfigOf
  rw [← hm, ← ho, ← hf, ← he, ← ha]
  simp only [stagingModeOf_code, overflowPolicyOf_code, filterOf_filterCode, errorPolicyOf_code, deadlineActionOf_code,
    ← hc, ← hr, ← hd, h1, h2, and_self, if_true]

/-- R185: a frame with a field out of range carries none. -/
theorem groupConfigOf_eq_none (h : 1 < (f.byte 2).toNat ∨ (f.half 3).toNat = 0 ∨ 1024 < (f.half 3).toNat ∨
    1 < (f.byte 5).toNat ∨ (15 < (f.byte 6).toNat ∧ (f.byte 6).toNat < 255) ∨ 1 < (f.byte 7).toNat ∨
    1 < (f.byte 10).toNat) : groupConfigOf f = none := by
  unfold groupConfigOf
  split
  · next hm ho hf he ha =>
    have named {k : Nat} (hk : 1 < (f.byte k).toNat) := named_values_above_one (f.byte k) hk
    rcases h with h | h | h | h | ⟨h, h'⟩ | h | h
    · simp [(named h).1] at hm
    · simp [h]
    · simp [Nat.not_le.mpr h]
    · simp [(named h).2.1] at ho
    · simp [filterOf_eq_none h h'] at hf
    · simp [(named h).2.2.1] at he
    · simp [(named h).2.2.2.1] at ha
  · rfl

theorem groupConfigReply_of_idle {c : GroupConfig} (hc : groupConfigOf f = some c) (hs : (s.group g).state = .idle) :
    groupConfigReply f s g = ⟨s.setGroup g { s.group g with config := c }, [0x00]⟩ := by
  unfold groupConfigReply
  rw [hc]
  exact if_pos hs

theorem groupConfigReply_of_not_idle {c : GroupConfig} (hc : groupConfigOf f = some c) (hs : (s.group g).state ≠ .idle) :
    groupConfigReply f s g = ⟨s, [0x01]⟩ := by
  simp only [groupConfigReply, hc, hs, if_false]
  rfl

theorem groupConfigReply_of_none (hc : groupConfigOf f = none) : groupConfigReply f s g = ⟨s, [0x03]⟩ := by
  simp only [groupConfigReply, hc]
  rfl

/-- Settles O15, by what the frame carries and then by the state of the group. -/
theorem groupConfigReplacesTheConfiguration : Obligations.GroupConfigReplacesTheConfiguration := by
  unfold Obligations.GroupConfigReplacesTheConfiguration
  refine ⟨fun s f g c h hl hi hm hc h1 h2 ho hf he hr hd ha => ?_, fun s f g h hl hi hbad => ?_⟩
  · have hsome := groupConfigOf_eq_some hm hc h1 h2 ho hf he hr hd ha
    split
    · next hs => exact next_takeFrame_indexed h (by exact hl) hi (groupConfigReply_of_idle hsome hs)
    · next hs => exact next_takeFrame_indexed_same h (by exact hl) hi (groupConfigReply_of_not_idle hsome hs)
  · exact next_takeFrame_indexed_same h (by exact hl) hi (groupConfigReply_of_none (groupConfigOf_eq_none hbad))

/-! ## GROUP_OPEN (R12) -/

theorem groupOpenReply_of_idle (hs : (s.group g).state = .idle) :
    groupOpenReply s g = ⟨s.setGroup g (s.group g).openFromIdle, [0x00]⟩ := by
  simp only [groupOpenReply, hs]
  rfl

theorem groupOpenReply_of_closed (hs : (s.group g).state = .closed) :
    groupOpenReply s g = ⟨s.setGroup g (s.group g).reopen, [0x00]⟩ := by
  simp only [groupOpenReply, hs]
  rfl

theorem groupOpenReply_of_other (h1 : (s.group g).state ≠ .idle) (h2 : (s.group g).state ≠ .closed) :
    groupOpenReply s g = ⟨s, [0x01]⟩ := by
  unfold groupOpenReply
  split
  case h_1 hs => exact absurd hs h1
  case h_2 hs => exact absurd hs h2
  all_goals rfl

/-- Settles O16, by the state of the group. -/
theorem groupOpenOpens : Obligations.GroupOpenOpens := by
  unfold Obligations.GroupOpenOpens
  exact fun s f g h hl hi =>
    ⟨fun hs => next_takeFrame_indexed h (by exact hl) hi (groupOpenReply_of_idle hs),
      fun hs => next_takeFrame_indexed h (by exact hl) hi (groupOpenReply_of_closed hs),
      fun h1 h2 => next_takeFrame_indexed_same h (by exact hl) hi (groupOpenReply_of_other h1 h2)⟩

/-! ## GROUP_CLOSE (R13) -/

theorem groupCloseReply_closes {b : Bool} (hb : f.flag? 2 = some b) (hs : (s.group g).state = .opened)
    (hc : b = true → f.word 3 = checkCodeOf (s.group g).entries) :
    groupCloseReply f s g =
      ⟨s.setGroup g (s.group g).close, 0x00 :: wordBytes (checkCodeOf (s.group g).entries)⟩ := by
  have hm : (b && f.word 3 != checkCodeOf (s.group g).entries) = false := by
    cases b with
    | false => rfl
    | true => simp [hc rfl]
  simp only [groupCloseReply, hb, hs, hm, if_true, Bool.false_eq_true, if_false]
  rfl

theorem groupCloseReply_mismatch (hb : f.flag? 2 = some true) (hs : (s.group g).state = .opened)
    (hc : f.word 3 ≠ checkCodeOf (s.group g).entries) :
    groupCloseReply f s g = ⟨s, 0x06 :: wordBytes (checkCodeOf (s.group g).entries)⟩ := by
  simp only [groupCloseReply, hb, hs, bne_iff_ne.mpr hc, if_true, Bool.and_true]
  rfl

theorem groupCloseReply_badArg (hb : f.flag? 2 = none) : groupCloseReply f s g = ⟨s, [0x03]⟩ := by
  simp only [groupCloseReply, hb]
  rfl

theorem groupCloseReply_wrongState {b : Bool} (hb : f.flag? 2 = some b) (hs : (s.group g).state ≠ .opened) :
    groupCloseReply f s g = ⟨s, [0x01]⟩ := by
  simp only [groupCloseReply, hb, hs, if_false]
  rfl

/-- Settles O18, by the presence byte, the state of the group and the comparison of the codes. -/
theorem groupCloseFixesTheContents : Obligations.GroupCloseFixesTheContents := by
  unfold Obligations.GroupCloseFixesTheContents
  intro s f g h hl hi
  have given (b : Bool) (hb : f.byte 2 = yesNo b) : f.flag? 2 = some b := (flag?_eq_some_iff f 2 b).mpr hb
  rw [← wordBytes_eq]
  refine ⟨fun hs hcode => ?_, fun hs h2 hne => ?_, fun h2 => ?_, fun hs h2 => ?_⟩
  · rcases hcode with h2 | ⟨h2, he⟩
    · exact next_takeFrame_indexed h (by exact hl) hi (groupCloseReply_closes (given false h2) hs (by simp))
    · exact next_takeFrame_indexed h (by exact hl) hi (groupCloseReply_closes (given true h2) hs fun _ => he)
  · exact next_takeFrame_indexed_same h (by exact hl) hi (groupCloseReply_mismatch (given true h2) hs hne)
  · exact next_takeFrame_indexed_same h (by exact hl) hi (groupCloseReply_badArg ((flag?_eq_none_iff f 2).mpr h2))
  · obtain ⟨b, hb⟩ : ∃ b, f.flag? 2 = some b := by
      rw [← Option.ne_none_iff_exists', ne_eq, flag?_eq_none_iff]
      omega
    exact next_takeFrame_indexed_same h (by exact hl) hi (groupCloseReply_wrongState hb hs)

end Sys2Proof.Machine
end

section
/-!
Arming and launching a group by command (R15, R16, R19).
-/
namespace Sys2Proof.Machine

open Safety

variable {s p : State} {f : Frame} {g : GroupId}

/-! ## The launch condition of a GROUP_ARM frame (R185) -/

theorem launchConditionOf_eq_some {c : LaunchCondition} (hc : c.code.1 = f.byte 2)
    (hp : ∀ p, c = .point p → (f.byte 3).toNat = p.val) (ha : ∀ h, c = .after h → (f.byte 3).toNat = h.val) :
    launchConditionOf f = some c := by
  unfold launchConditionOf
  rw [← hc]
  cases c with
  | point p => exact congrArg (Option.map LaunchCondition.point) (number?_of_eq (hp p rfl))
  | after h => exact congrArg (Option.map LaunchCondition.after) (number?_of_eq (ha h rfl))
  | _ => rfl

theorem launchConditionOf_eq_none (h : 5 < (f.byte 2).toNat ∨ (f.byte 2 = 0x02 ∨ f.byte 2 = 0x05) ∧ 7 < (f.byte 3).toNat) :
    launchConditionOf f = none := by
  unfold launchConditionOf
  rcases h with h | ⟨h | h, h3⟩
  · split
    case h_7 => rfl
    all_goals omega
  · rw [h]
    exact congrArg (Option.map LaunchCondition.point) (number?_of_ge h3)
  · rw [h]
    exact congrArg (Option.map LaunchCondition.after) (number?_of_ge h3)

theorem exists_launchConditionOf (h2 : (f.byte 2).toNat ≤ 5)
    (h3 : f.byte 2 = 0x02 ∨ f.byte 2 = 0x05 → (f.byte 3).toNat ≤ 7) : ∃ c, launchConditionOf f = some c := by
  have number (h : f.byte 2 = 0x02 ∨ f.byte 2 = 0x05) : f.number? 3 8 = some ⟨(f.byte 3).toNat, Nat.lt_succ_of_le (h3 h)⟩ :=
    number?_of_eq rfl
  unfold launchConditionOf
  split
  case h_3 h => exact ⟨_, congrArg (Option.map LaunchCondition.point) (number (.inl (BitVec.eq_of_toNat_eq h)))⟩
  case h_6 h => exact ⟨_, congrArg (Option.map LaunchCondition.after) (number (.inr (BitVec.eq_of_toNat_eq h)))⟩
  case h_7 b0 b1 b2 b3 b4 b5 =>
    simp only [imp_false] at b0 b1 b2 b3 b4 b5
    omega
  all_goals exact ⟨_, rfl⟩

/-! ## GROUP_ARM (R15, R16) -/

theorem canArm_iff (st : GroupState) : st.canArm = true ↔ st = .closed ∨ st = .faulted := by
  cases st <;> simp [GroupState.canArm]

theorem isWaitedOn_iff (st : GroupState) : st.isWaitedOn = true ↔ st = .armed ∨ st = .pending ∨ st = .releasing := by
  cases st <;> simp [GroupState.isWaitedOn]

theorem armCheck_after_eq_none_iff (h : GroupId) : s.armCheck g (.after h) = none ↔
    ((s.group h).state = .armed ∨ (s.group h).state = .pending ∨ (s.group h).state = .releasing) ∧
      ¬ Relation.ReflTransGen (IsAfter s) h g := by
  simp only [State.armCheck, ite_eq_left_iff, reduceCtorEq, imp_false, not_not, Bool.and_eq_true, Bool.not_eq_true',
    isWaitedOn_iff, ← chainReaches_nine_iff, Bool.not_eq_true]

theorem groupArmReply_of_none (hc : launchConditionOf f = none) : groupArmReply f s g = ⟨s, [0x03]⟩ := by
  unfold groupArmReply
  rw [hc]
  rfl

theorem groupArmReply_wrongState {c : LaunchCondition} (hc : launchConditionOf f = some c)
    (hs : ¬ ((s.group g).state = .closed ∨ (s.group g).state = .faulted)) : groupArmReply f s g = ⟨s, [0x01]⟩ := by
  unfold groupArmReply
  rw [hc]
  exact if_neg (mt (canArm_iff _).mp hs)

theorem groupArmReply_of_check {c : LaunchCondition} (hc : launchConditionOf f = some c)
    (hs : (s.group g).state = .closed ∨ (s.group g).state = .faulted) :
    groupArmReply f s g = match s.armCheck g c with
      | some st => ⟨s, [st.code]⟩
      | none => ⟨s.armGroup g c, [0x00]⟩ := by
  unfold groupArmReply
  rw [hc]
  refine (if_pos ((canArm_iff _).mpr hs)).trans ?_
  cases s.armCheck g c <;> rfl

theorem groupArmReply_refused {c : LaunchCondition} {st : Status} (hc : launchConditionOf f = some c)
    (hs : (s.group g).state = .closed ∨ (s.group g).state = .faulted) (ha : s.armCheck g c = some st) :
    groupArmReply f s g = ⟨s, [st.code]⟩ := by
  rw [groupArmReply_of_check hc hs, ha]

/-- R16: an accepted GROUP_ARM as a frame. -/
theorem exec_groupArm_accepted (h : LinkReady s) (hl : 4 ≤ f.length) (hi : (f.byte 1).toNat = g.val) {c : LaunchCondition}
    (hc : launchConditionOf f = some c) (hs : (s.group g).state = .closed ∨ (s.group g).state = .faulted)
    (ha : s.armCheck g c = none) : exec (.groupArm f) s = .next (afterFrame s (s.armGroup g c) 0x13 f [0x00]) := by
  refine next_takeFrame_indexed h (by exact hl) hi ?_
  have hr : (s.receive 0x13 f).armCheck g c = none := by
    rw [← ha]
    cases c with
    | after h =>
      have reaches (fuel : Nat) (k : GroupId) : (s.receive 0x13 f).chainReaches g fuel k = s.chainReaches g fuel k := by
        induction fuel generalizing k with
        | zero => rfl
        | succ n ih => rw [chainReaches_succ, chainReaches_succ, funext ih]; rfl
      simp only [State.armCheck, State.receive_group, reaches]
    | _ => rfl
  rw [groupArmReply_of_check hc (by exact hs), hr]
  rw [State.receive_eq, armGroup_setLink]
  rfl

/-- Settles O19: the checks of every condition but IMMEDIATE, and the record that GROUP_ARM leaves. -/
theorem groupArmArms : Obligations.GroupArmArms := by
  unfold Obligations.GroupArmArms
  intro s f g c h hl hi hs hne hc hp ha
  have hcond := launchConditionOf_eq_some hc (fun p e => (hp p e).1) (fun k e => (ha k e).1)
  have hcheck : s.armCheck g c = none := by
    cases c with
    | point p => exact if_pos (hp p rfl).2
    | after k => exact (armCheck_after_eq_none_iff k).mpr (ha k rfl).2
    | _ => rfl
  rw [exec_groupArm_accepted h hl hi hcond hs hcheck]
  cases c with
  | immediate => exact absurd rfl hne
  | _ => rfl

/-- Settles O21, in the order of the checks. -/
theorem groupArmRefusals : Obligations.GroupArmRefusals := by
  unfold Obligations.GroupArmRefusals
  intro s f g h hl hi
  refine ⟨fun hbad => ?_, fun h1 h2 hb2 hb3 => ?_, fun hs => ⟨fun p h2 h3 hp => ?_, fun k h2 h3 hk => ?_⟩⟩
  · exact next_takeFrame_indexed_same h (by exact hl) hi (groupArmReply_of_none (launchConditionOf_eq_none hbad))
  · obtain ⟨c, hc⟩ := exists_launchConditionOf hb2 hb3
    exact next_takeFrame_indexed_same h (by exact hl) hi (groupArmReply_wrongState hc (not_or.mpr ⟨h1, h2⟩))
  · have hc : launchConditionOf f = some (.point p) :=
      launchConditionOf_eq_some h2.symm (by rintro _ ⟨⟩; exact h3) (by rintro _ ⟨⟩)
    have hcheck : (s.receive 0x13 f).armCheck g (.point p) = some .badPoint := if_neg (by simp [hp])
    exact next_takeFrame_indexed_same h (by exact hl) hi (groupArmReply_refused hc (by exact hs) hcheck)
  · have hc : launchConditionOf f = some (.after k) :=
      launchConditionOf_eq_some h2.symm (by rintro _ ⟨⟩) (by rintro _ ⟨⟩; exact h3)
    have hne : (s.receive 0x13 f).armCheck g (.after k) ≠ none := by
      rw [ne_eq, armCheck_after_eq_none_iff]
      rintro ⟨hwait, hreach⟩
      rcases hk with rfl | ⟨ha, hp, hr⟩ | hk
      · exact hreach .refl
      · rcases hwait with hw | hw | hw
        exacts [ha hw, hp hw, hr hw]
      · exact hreach hk.to_reflTransGen
    have hcheck : (s.receive 0x13 f).armCheck g (.after k) = some .badChain := by
      simp only [State.armCheck] at hne ⊢
      split at hne
      · exact absurd rfl hne
      · next hif => exact if_neg hif
    exact next_takeFrame_indexed_same h (by exact hl) hi (groupArmReply_refused hc (by exact hs) hcheck)

/-! ## Launching by command (R16, R19, R81) -/

theorem exec_taking (h : TakesEvents s) : exec .taking s = .next s.takeNext :=
  congrArg _ (State.whenRunning_taken h)

theorem takeNext_of_not_idle (h : s.engine.state ≠ .idle) : s.takeNext = s := by
  rcases takeNext_cases s with ⟨-, e⟩ | ⟨hs, -⟩
  · exact e
  · exact absurd hs h

/-- R81, R139: an event that has put a group at the end of the launch queue lets an IDLE engine take the head. -/
theorem takeIfAppended_append {q : List GroupId} (hq : s.launchQueue = q ++ [g]) : s.takeIfAppended q.length = s.takeNext := by
  simp [State.takeIfAppended, hq]

theorem armGroup_immediate (hp : p = { s.setGroup g { s.group g with
      state := .pending, condition := some .immediate, repeatsRemaining := (s.group g).config.repeats
      deadlineRemaining := none } with launchQueue := s.launchQueue ++ [g] }) :
    s.armGroup g .immediate = p.takeNext := by
  have hm : (s.modifyGroup g (GroupRecord.arm .immediate)).makePending g = p := by
    rw [hp]
    simp [State.makePending, State.modifyGroup, State.appendLaunch, GroupRecord.arm, GroupRecord.toPending,
      State.setLaunchQueue]
  unfold State.armGroup
  dsimp only
  rw [hm]
  exact takeIfAppended_append (by rw [hp])

theorem groupLaunchReply_of_armed (hs : (s.group g).state = .armed) :
    groupLaunchReply s g = ⟨(s.makePending g).takeNext, [0x00]⟩ := by
  have ht : (s.makePending g).takeIfAppended s.launchQueue.length = (s.makePending g).takeNext := takeIfAppended_append rfl
  rw [← ht]
  exact if_pos hs

theorem groupLaunchReply_of_not_armed (hs : (s.group g).state ≠ .armed) : groupLaunchReply s g = ⟨s, [0x01]⟩ := if_neg hs

/-- Settles O20: what is appended to the launch queue, and what an IDLE engine then does. -/
theorem immediateAndLaunchQueueTheGroup : Obligations.ImmediateAndLaunchQueueTheGroup := by
  unfold Obligations.ImmediateAndLaunchQueueTheGroup
  refine ⟨fun s p f g h hl hi hs h2 hp => ?_, fun s p f g h hl hi hp => ?_⟩
  · have hc : launchConditionOf f = some .immediate :=
      launchConditionOf_eq_some h2.symm (by rintro _ ⟨⟩) (by rintro _ ⟨⟩)
    have he : exec (.groupArm f) s = .next (afterFrame s p.takeNext 0x13 f [0x00]) :=
      armGroup_immediate hp ▸ exec_groupArm_accepted h hl hi hc hs rfl
    have hpe : p.engine = s.engine := by rw [hp]; rfl
    refine ⟨fun hn => ?_, fun _ => ⟨_, exec_taking (by rw [hp]; exact h.1), he⟩⟩
    rw [he, takeNext_of_not_idle (hpe ▸ hn)]
  · have hm : s.makePending g = p := hp.symm
    have he (ha : (s.group g).state = .armed) :
        exec (.groupLaunch f) s = .next (afterFrame s p.takeNext 0x15 f [0x00]) := by
      refine next_takeFrame_indexed h (by exact hl) hi ((groupLaunchReply_of_armed (by exact ha)).trans ?_)
      have hr : (s.receive 0x15 f).makePending g = p.setLink (s.receive 0x15 f).link := by rw [← hm]; rfl
      rw [hr, takeNext_setLink]
    have hpe : p.engine = s.engine := by rw [hp]; rfl
    refine ⟨fun ha hn => ?_, fun ha _ => ⟨_, exec_taking (by rw [hp]; exact h.1), he ha⟩, fun ha => ?_⟩
    · rw [he ha, takeNext_of_not_idle (hpe ▸ hn)]
    · exact next_takeFrame_indexed_same h (by exact hl) hi (groupLaunchReply_of_not_armed (by exact ha))

end Sys2Proof.Machine
end

section
/-!
Withdrawing a group by command, and the breaking of its successors (R9, R18, R20).
-/
namespace Sys2Proof.Machine

open Safety

variable {s p u : State} {f : Frame} {g : GroupId}

/-! ## Leaving the armed states by command (R18, R20) -/

theorem removeLaunch_eq (s : State) (g : GroupId) : s.removeLaunch g = s.setLaunchQueue (s.launchQueue.filter (· ≠ g)) := by
  have hf : (fun k : GroupId => k != g) = fun k => decide (k ≠ g) := by
    funext k
    by_cases h : k = g <;> simp [h]
  unfold State.removeLaunch
  rw [hf]

/-- R147: the part once `g` has left whatever place it held in the launch queue. -/
def State.withdrawn (s : State) (g : GroupId) : State :=
  s.setLaunchQueue (if (s.group g).state = .pending then s.launchQueue.filter (· ≠ g) else s.launchQueue)

theorem withdrawn_of_armed (hs : (s.group g).state = .armed) : s.withdrawn g = s := by
  simp [State.withdrawn, hs, State.setLaunchQueue]

theorem withdrawn_of_pending (hs : (s.group g).state = .pending) :
    s.withdrawn g = s.setLaunchQueue (s.launchQueue.filter (· ≠ g)) := by
  simp [State.withdrawn, hs]

/-- R8, R45: the part once the entries of `g` are freed and its record emptied. -/
theorem emptyGroup_eq_emptied (s : State) (g : GroupId) : s.emptyGroup g =
    { s.setGroup g (emptiedRecord (s.group g)) with free := s.free + (s.group g).entries.length } := rfl

theorem groupDisarmReply_of_waiting (hs : (s.group g).state = .armed ∨ (s.group g).state = .pending) :
    groupDisarmReply s g =
      ⟨((s.withdrawn g).setGroup g (closedRecord (s.group g))).breakSuccessors g, [0x00]⟩ := by
  unfold groupDisarmReply
  rcases hs with hs | hs
  · rw [withdrawn_of_armed hs]
    split <;> simp_all
    rfl
  · rw [withdrawn_of_pending hs]
    split <;> simp_all [removeLaunch_eq]
    rfl

theorem groupDisarmReply_of_other (h1 : (s.group g).state ≠ .armed) (h2 : (s.group g).state ≠ .pending) :
    groupDisarmReply s g = ⟨s, [0x01]⟩ := by
  unfold groupDisarmReply
  split
  case h_1 hs => exact absurd hs h1
  case h_2 hs => exact absurd hs h2
  all_goals rfl

theorem discard_of_waiting (hs : (s.group g).state = .armed ∨ (s.group g).state = .pending) :
    s.discard g = ((s.withdrawn g).emptyGroup g).breakSuccessors g := by
  unfold State.discard
  rcases hs with hs | hs
  · rw [withdrawn_of_armed hs, hs]
  · rw [withdrawn_of_pending hs, hs]
    exact congrArg (State.breakSuccessors · g) (removeLaunch_eq ..)

theorem discard_of_holding (hs : (s.group g).state = .opened ∨ (s.group g).state = .closed ∨ (s.group g).state = .faulted) :
    s.discard g = s.emptyGroup g := by
  unfold State.discard
  rcases hs with hs | hs | hs <;> rw [hs]

theorem discard_of_idle (hs : (s.group g).state = .idle) : s.discard g = s := by
  unfold State.discard
  rw [hs]

/-- R20: GROUP_DISCARD as a frame. -/
theorem exec_groupDiscard (h : LinkReady s) (hl : 2 ≤ f.length) (hi : (f.byte 1).toNat = g.val) :
    exec (.groupDiscard f) s = .next (afterFrame s (s.discard g) 0x16 f [0x00]) := by
  refine next_takeFrame_indexed h (by exact hl) hi ?_
  rw [State.receive_eq, discard_setLink]
  rfl

/-- R18: GROUP_DISARM of an ARMED or PENDING group as a frame. -/
theorem exec_groupDisarm (h : LinkReady s) (hl : 2 ≤ f.length) (hi : (f.byte 1).toNat = g.val)
    (hs : (s.group g).state = .armed ∨ (s.group g).state = .pending) :
    exec (.groupDisarm f) s = .next (afterFrame s
      (((s.withdrawn g).setGroup g (closedRecord (s.group g))).breakSuccessors g) 0x14 f [0x00]) := by
  refine next_takeFrame_indexed h (by exact hl) hi ((groupDisarmReply_of_waiting (by exact hs)).trans ?_)
  rw [← breakSuccessors_setLink]
  rfl

theorem noSuccessor_withdrawn (h : NoSuccessor s g) {r : GroupRecord} (hr : r.state ≠ .armed) :
    NoSuccessor ((s.withdrawn g).setGroup g r) g :=
  noSuccessor_setGroup (s := s.withdrawn g) h hr

/-- Settles O22: with no successor there is nothing to break. -/
theorem groupDisarmWithdraws : Obligations.GroupDisarmWithdraws := by
  unfold Obligations.GroupDisarmWithdraws
  intro s f g h hl hi
  refine ⟨fun hn hs => ?_, fun hn hs => ?_, fun h1 h2 => ?_⟩
  · rw [exec_groupDisarm h hl hi (.inl hs), breakSuccessors_of_noSuccessor (noSuccessor_withdrawn hn (by simp)),
      withdrawn_of_armed hs]
  · rw [exec_groupDisarm h hl hi (.inr hs), breakSuccessors_of_noSuccessor (noSuccessor_withdrawn hn (by simp)),
      withdrawn_of_pending hs]
    rfl
  · exact next_takeFrame_indexed_same h (by exact hl) hi (groupDisarmReply_of_other (by exact h1) (by exact h2))

/-- Settles O23, by the state of the group. -/
theorem groupDiscardEmpties : Obligations.GroupDiscardEmpties := by
  unfold Obligations.GroupDiscardEmpties
  intro s p f g h hl hi hp
  rw [exec_groupDiscard h hl hi]
  have emptied (hn : NoSuccessor s g) : NoSuccessor ((s.withdrawn g).emptyGroup g) g :=
    noSuccessor_withdrawn (r := emptiedRecord (s.group g)) hn (by simp)
  refine ⟨fun hs => ?_, fun hs => ?_, fun hn hs => ?_, fun hn hs => ?_⟩
  · rw [discard_of_idle hs]
  · rw [discard_of_holding hs, emptyGroup_eq_emptied, hp]
  · rw [discard_of_waiting (.inl hs), breakSuccessors_of_noSuccessor (emptied hn), withdrawn_of_armed hs, hp]
    rfl
  · rw [discard_of_waiting (.inr hs), breakSuccessors_of_noSuccessor (emptied hn), withdrawn_of_pending hs, hp]
    rfl

/-! ## The groups that are broken (R9) -/

/-- R9: whom `g` breaks does not depend on the record that `g` itself has left with. -/
theorem isBrokenBy_congr (hk : ∀ k, k ≠ g → u.group k = s.group k) (hg : (u.group g).state ≠ .armed) (k : GroupId) :
    IsBrokenBy u g k ↔ IsBrokenBy s g k := by
  refine and_congr_right fun hkg => ⟨fun h => ?_, fun h => ?_⟩
  · refine Relation.TransGen.mono (fun a b hab => ?_) _ _ h
    have ha : a ≠ g := by
      rintro rfl
      exact hg hab.1
    rw [IsSuccessor, hk a ha] at hab
    exact hab
  · induction h using Relation.TransGen.head_induction_on with
    | single hab => exact .single (by rwa [IsSuccessor, hk _ hkg])
    | @head a c hab hcg ih =>
      have hac : IsSuccessor u a c := by rwa [IsSuccessor, hk _ hkg]
      by_cases hc : c = g
      · exact .single (hc ▸ hac)
      · exact .head hac (ih hc)

/-- R154: the records that breaking offers depend on the completion queue and the timebase alone. -/
theorem foldl_breakOne_completions (l : List GroupId) {s u : State} (hc : u.completions = s.completions)
    (ht : u.timebase = s.timebase) :
    (l.foldl State.breakOne u).completions =
      (l.foldl (fun v k => withRecord v (plainRecord v .chainBroken (some k))) s).completions := by
  induction l generalizing s u with
  | nil => exact hc
  | cons k l ih =>
    refine ih ?_ ?_
    · rw [breakOne_eq]
      simp only [State.setGroup_completions, hc, ht]
    · rw [breakOne_eq]
      exact ht

/-- R9: what the breaking of successors leaves, when `u` is the part once `g` has left its armed states. -/
theorem breakSuccessors_spec (hk : ∀ k, k ≠ g → u.group k = s.group k) (hg : (u.group g).state ≠ .armed)
    (hc : u.completions = s.completions) (ht : u.timebase = s.timebase) :
    ∃ broken : List GroupId, broken.Pairwise (· < ·) ∧ (∀ k, k ∈ broken ↔ IsBrokenBy s g k) ∧
      (∀ k ∈ broken, (u.breakSuccessors g).group k = closedRecord (s.group k)) ∧
      (∀ k, k ≠ g → k ∉ broken → (u.breakSuccessors g).group k = s.group k) ∧
      (u.breakSuccessors g).group g = u.group g ∧
      (u.breakSuccessors g).completions =
        (broken.foldl (fun v k => withRecord v (plainRecord v .chainBroken (some k))) s).completions ∧
      (u.breakSuccessors g).launchQueue = u.launchQueue := by
  have mem (k : GroupId) : k ∈ u.brokenBy g ↔ IsBrokenBy s g k := (mem_brokenBy_iff u g k).trans (isBrokenBy_congr hk hg k)
  refine ⟨u.brokenBy g, pairwise_allGroups_filter _, mem, fun k hm => ?_, fun k hne hm => ?_, ?_,
    foldl_breakOne_completions _ hc ht, by rw [breakSuccessors_rest]⟩
  · rw [group_breakSuccessors, if_pos hm, hk k ((mem k).mp hm).1]
    rfl
  · rw [group_breakSuccessors, if_neg hm, hk k hne]
  · exact (group_breakSuccessors ..).trans (if_neg fun hm => ((mem g).mp hm).1 rfl)

/-- Settles O24: GROUP_DISARM and GROUP_DISCARD take `g` out of its armed states, and then its successors are broken. -/
theorem breakingIsTransitive : Obligations.BreakingIsTransitive := by
  unfold Obligations.BreakingIsTransitive
  refine ⟨fun s p f g h hl hi hs hp => ?_, fun s f g c h hl hi hs hc => ?_⟩
  · have hw : s.withdrawn g = p := hp.symm
    refine ⟨⟨_, broke_breakSuccessors _ g, ?_⟩, ⟨_, broke_breakSuccessors _ g, ?_⟩⟩
    · rw [exec_groupDisarm h hl hi hs, hw]
    · rw [exec_groupDiscard h hl hi, discard_of_waiting hs, hw, emptyGroup_eq_emptied, ← hw]
      rfl
  · have others (r : GroupRecord) (k : GroupId) (hk : k ≠ g) : ((s.withdrawn g).setGroup g r).group k = s.group k :=
      State.group_setGroup_ne _ hk r
    have hg : ((s.withdrawn g).emptyGroup g).group g = emptiedRecord (s.group g) := by
      rw [emptyGroup_eq_emptied]
      exact State.group_setGroup_self ..
    rcases hc with rfl | rfl
    · obtain ⟨broken, h1, h2, h3, h4, h5, h6, h7⟩ :=
        breakSuccessors_spec (s := s) (u := (s.withdrawn g).setGroup g (closedRecord (s.group g))) (others _) (by simp) rfl rfl
      refine ⟨_, broken, exec_groupDisarm h hl hi hs, h1, h2, h3, h4, ?_, h6, h7⟩
      rw [if_pos rfl]
      exact (congrArg GroupRecord.state h5).trans (by simp)
    · obtain ⟨broken, h1, h2, h3, h4, h5, h6, h7⟩ :=
        breakSuccessors_spec (s := s) (u := (s.withdrawn g).emptyGroup g) (others _) (by rw [hg]; simp) rfl rfl
      have he : exec (.groupDiscard f) s =
          .next (afterFrame s (((s.withdrawn g).emptyGroup g).breakSuccessors g) 0x16 f [0x00]) := by
        rw [exec_groupDiscard h hl hi, discard_of_waiting hs]
      refine ⟨_, broken, he, h1, h2, h3, h4, ?_, h6, h7⟩
      rw [if_neg (by simp)]
      exact (congrArg GroupRecord.state (h5.trans hg)).trans (by simp)

end Sys2Proof.Machine
end

section
/-!
SOFT_RESET, the values after reset, and that each configuration changes only by its own command.
-/
namespace Sys2Proof.Machine

open Safety

variable {s t u : State} {c : Instr}

/-! ## SOFT_RESET (R92, R177) -/

theorem groupRecord_softReset_eq (r : GroupRecord) : r.softReset =
    { config := r.config, sequence := r.sequence, lastWritten := r.lastWritten, lastFailed := r.lastFailed } := rfl

/-- R92: the release context after SOFT_RESET, by the state of the engine. -/
theorem engine_softReset_eq (e : Engine) : e.softReset =
    if e.state = .idle then e
    else if e.state = .stopping then { e with cause := some .softReset }
    else if e.state = .draining ∧ e.write = .issued then { e with state := .stopping, cause := some .softReset }
    else {} := by
  unfold Engine.softReset
  split <;> simp_all

/-- R158: with a threshold of at least 1 an empty completion queue leaves IRQ_N released. -/
theorem irqLevel_empty {irq : IrqConfig} (h : 1 ≤ irq.threshold) : irqLevel irq {} = false := by
  have : irq.threshold ≠ 0 := by omega
  simp [irqLevel, this]

/-- Settles O30, component by component. -/
theorem softResetEmptiesTheStagingSide : Obligations.SoftResetEmptiesTheStagingSide := by
  unfold Obligations.SoftResetEmptiesTheStagingSide
  intro s f h hl hi
  refine congrArg _ (State.takeFrame_reply (t := { s.softReset with link := s.link }) h (by exact hl) rfl |>.trans ?_)
  simp only [State.softReset, State.setCompletions, State.setReported, irqLevel_empty hi, engine_softReset_eq,
    funext groupRecord_softReset_eq]
  rfl

/-! ## Reset -/

theorem group_reset (g : GroupId) : State.reset.group g = {} := by
  simp [State.reset, State.group]

theorem tag_reset (t : TagId) : State.reset.tag t = .free := by
  simp [State.reset, State.tag]

theorem window_reset (w : Fin 16) : State.reset.window w = ⟨false, 0, 0, 0, .pass, .pass⟩ := by
  simp [State.reset, State.window]

theorem point_reset (p : Fin 8) : State.reset.point p = ⟨false, 0, 0, false, 0⟩ := by
  simp [State.reset, State.point]

theorem settleCount_reset (g : GroupId) : State.reset.settleCount g = 0 := by
  simp [State.reset, State.settleCount]

/-- Settles O3. -/
theorem resetValues : Obligations.ResetValues := by
  unfold Obligations.ResetValues
  refine ⟨fun g => ?_, rfl, rfl, window_reset, rfl, tag_reset, settleCount_reset, rfl, rfl, rfl, rfl, point_reset, rfl,
    rfl, rfl, rfl, rfl, rfl, rfl, rfl, rfl, rfl, rfl⟩
  rw [group_reset]
  decide

theorem coordinated_reset : Coordinated State.reset := coordinated_of_reset group_reset rfl rfl rfl

theorem afterAcyclic_reset : AfterAcyclic State.reset := by
  intro g h
  obtain ⟨k, hk, -⟩ := Relation.TransGen.head'_iff.mp h
  simp [IsAfter, group_reset] at hk

/-- R98: right after reset no request waits. -/
theorem noGrantDue_reset : NoGrantDue State.reset := .inr (by decide)

/-- Settles O51, invariant by invariant. -/
theorem invariantsHoldAtReset : Obligations.InvariantsHoldAtReset := by
  unfold Obligations.InvariantsHoldAtReset
  refine ⟨?pool, ?entries, ?lists, coordinated_reset, afterAcyclic_reset, ?issued, ?copy, noGrantDue_reset, ?timeouts, ?quiet,
    ?carries, ?settle, ?draining, ?completions, ?timebase, ?points, ?windows, ?order, ?named⟩
  case pool => decide
  case entries => exact ⟨by simp [group_reset], by decide⟩
  case lists => intro g; rw [group_reset]; decide
  case issued => decide
  case copy => simp [TagCarriesCopy, tag_reset]
  case timeouts => exact ⟨by decide, by simp [tag_reset]⟩
  case quiet => decide
  case carries => exact fun h => absurd rfl h
  case settle => decide
  case draining => exact fun g _ _ => settleCount_reset g
  case completions => decide
  case timebase => decide
  case points => simp [PointsInRange, point_reset]
  case windows => simp [WindowsInRange, window_reset]
  case order => decide
  case named => decide

/-! ## Each configuration and its command (R2) -/

/-- R2: from `s` to `t` a configuration has changed only where `c` is the command that sets it. -/
structure ChangesOnlyItsOwn (c : Instr) (s t : State) : Prop where
  config : (∀ f, c ≠ .groupConfig f) → ∀ g : GroupId, (t.group g).config = (s.group g).config
  windows : (∀ f, c ≠ .windowSet f) → (∀ f, c ≠ .windowClear f) → t.windows = s.windows
  points : (∀ f, c ≠ .pointSet f) → t.points = s.points
  timeout : (∀ f, c ≠ .portConfig f) → t.port.timeout = s.port.timeout
  timebase : (∀ f, c ≠ .timebaseConfig f) → t.timebase.mode = s.timebase.mode ∧
    t.timebase.linePeriod = s.timebase.linePeriod ∧ t.timebase.lines = s.timebase.lines ∧
    t.timebase.tolerance = s.timebase.tolerance
  irq : (∀ f, c ≠ .irqConfig f) → t.irq = s.irq
  pending : t.pending = s.pending

theorem Keeps.changes (h : Keeps s t) : ChangesOnlyItsOwn c s t :=
  ⟨fun _ => h.config, fun _ _ => h.windows, fun _ => h.points, fun _ => h.timeout,
    fun _ => ⟨h.mode, h.linePeriod, h.lines, h.tolerance⟩, fun _ => h.irq, h.pending⟩

theorem ChangesOnlyItsOwn.refl (c : Instr) (s : State) : ChangesOnlyItsOwn c s s := (Keeps.refl s).changes

/-- The control link is no configuration. -/
theorem ChangesOnlyItsOwn.between_links (l m : ControlLink) (h : ChangesOnlyItsOwn c (s.setLink l) t) :
    ChangesOnlyItsOwn c s (t.setLink m) :=
  ⟨h.config, h.windows, h.points, h.timeout, h.timebase, h.irq, h.pending⟩

theorem changes_takeFrame (s : State) (code : Byte) (f : Frame) {act : State → Reply}
    (h : ∀ s, ChangesOnlyItsOwn c s (act s).state) : ChangesOnlyItsOwn c s (s.takeFrame code f act) := by
  rcases s.takeFrame_cases code f act with e | ⟨l, e⟩ | ⟨l, e⟩ <;> rw [e]
  · exact .refl c s
  · exact (ChangesOnlyItsOwn.refl c (s.setLink s.link)).between_links s.link l
  · exact (h (s.receive code f)).between_links _ l

theorem changes_indexed (s : State) (code : Byte) (f : Frame) {n : Nat} {act : State → Fin n → Reply}
    (h : ∀ s i, ChangesOnlyItsOwn c s (act s i).state) :
    ChangesOnlyItsOwn c s (s.takeFrame code f fun s => withIndex n f s (act s)) := by
  refine changes_takeFrame s code f fun s => ?_
  rcases withIndex_cases n f s (act s) with e | ⟨i, e⟩ <;> rw [e]
  · exact .refl c s
  · exact h s i

theorem keeps_groupOpenReply (s : State) (g : GroupId) : Keeps s (groupOpenReply s g).state := by
  unfold groupOpenReply
  split
  case h_1 => exact keeps_setGroup rfl
  case h_2 => exact keeps_setGroup rfl
  all_goals exact .refl s

theorem keeps_groupCloseReply (f : Frame) (s : State) (g : GroupId) : Keeps s (groupCloseReply f s g).state := by
  unfold groupCloseReply
  split
  · exact .refl s
  · split
    · split
      · exact .refl s
      · exact keeps_setGroup rfl
    · exact .refl s

theorem keeps_groupArmReply (f : Frame) (s : State) (g : GroupId) : Keeps s (groupArmReply f s g).state := by
  unfold groupArmReply
  split
  · exact .refl s
  · split
    · split
      · exact .refl s
      · exact keeps_armGroup ..
    · exact .refl s

theorem keeps_groupDisarmReply (s : State) (g : GroupId) : Keeps s (groupDisarmReply s g).state := by
  unfold groupDisarmReply
  split
  case h_1 => exact (keeps_modifyGroup (by intro _; rfl)).trans (keeps_breakSuccessors ..)
  case h_2 => exact ((keeps_modifyGroup (by intro _; rfl)).trans (keeps_removeLaunch ..)).trans (keeps_breakSuccessors ..)
  all_goals exact .refl s

theorem keeps_groupLaunchReply (s : State) (g : GroupId) : Keeps s (groupLaunchReply s g).state := by
  unfold groupLaunchReply
  split
  · exact (keeps_makePending s g).trans (keeps_takeIfAppended ..)
  · exact .refl s

theorem keeps_entryReadReply (g : GroupId) (i : Nat) (s : State) : Keeps s (entryReadReply g i s).state := by
  unfold entryReadReply
  split <;> exact .refl s

/-- R2: what a reset of the whole part does not reach is the model's queue of commands. -/
theorem pending_lowerResetPin (s : State) (n : Nat) : (s.lowerResetPin n).pending = s.pending := by
  unfold State.lowerResetPin
  split
  · rfl
  · split
    · rfl
    · split <;> rfl

/-- R2: every command but the resets of the whole part, command by command. -/
theorem changesOnlyItsOwn_exec (hp : c ≠ .powerOnReset) (hr : ∀ n, c ≠ .rstN n) (h : exec c s = .next t) :
    ChangesOnlyItsOwn c s t := by
  cases c
  case powerOnReset => exact absurd rfl hp
  case rstN n => exact absurd rfl (hr n)
  case nop f => cases h; exact changes_takeFrame s _ f (.refl _)
  case bridgeStatus f => cases h; exact changes_takeFrame s _ f (.refl _)
  case timebaseRead f => cases h; exact changes_takeFrame s _ f (.refl _)
  case groupStatus f => cases h; exact changes_indexed s _ f fun s _ => .refl _ s
  case windowRead f => cases h; exact changes_indexed s _ f fun s _ => .refl _ s
  case pointRead f => cases h; exact changes_indexed s _ f fun s _ => .refl _ s
  case entryRead f => cases h; exact changes_indexed s _ f fun s g => (keeps_entryReadReply g _ s).changes
  case softReset f =>
    cases h
    refine changes_takeFrame s _ f fun s => ⟨fun _ g => ?_, fun _ _ => rfl, fun _ => rfl, fun _ => rfl,
      fun _ => ⟨rfl, rfl, rfl, rfl⟩, fun _ => rfl, rfl⟩
    exact (congrArg GroupRecord.config (softReset_group s g)).trans rfl
  case groupConfig f =>
    cases h
    refine changes_indexed s _ f fun s g => ?_
    unfold groupConfigReply
    split
    · exact .refl _ s
    · split
      · exact ⟨fun h => absurd rfl (h f), fun _ _ => rfl, fun _ => rfl, fun _ => rfl, fun _ => ⟨rfl, rfl, rfl, rfl⟩,
          fun _ => rfl, rfl⟩
      · exact .refl _ s
  case groupOpen f => cases h; exact changes_indexed s _ f fun s g => (keeps_groupOpenReply s g).changes
  case groupClose f => cases h; exact changes_indexed s _ f fun s g => (keeps_groupCloseReply f s g).changes
  case groupArm f => cases h; exact changes_indexed s _ f fun s g => (keeps_groupArmReply f s g).changes
  case groupDisarm f => cases h; exact changes_indexed s _ f fun s g => (keeps_groupDisarmReply s g).changes
  case groupLaunch f => cases h; exact changes_indexed s _ f fun s g => (keeps_groupLaunchReply s g).changes
  case groupDiscard f => cases h; exact changes_indexed s _ f fun s g => (keeps_discard s g).changes
  case windowSet f =>
    cases h
    refine changes_indexed s _ f fun s w => ?_
    unfold windowSetReply
    split
    · exact .refl _ s
    · split
      · exact .refl _ s
      · exact ⟨fun _ _ => rfl, fun h => absurd rfl (h f), fun _ => rfl, fun _ => rfl, fun _ => ⟨rfl, rfl, rfl, rfl⟩,
          fun _ => rfl, rfl⟩
  case windowClear f =>
    cases h
    refine changes_indexed s _ f fun s w => ?_
    unfold windowClearReply
    split
    · exact .refl _ s
    · exact ⟨fun _ _ => rfl, fun _ h => absurd rfl (h f), fun _ => rfl, fun _ => rfl, fun _ => ⟨rfl, rfl, rfl, rfl⟩,
        fun _ => rfl, rfl⟩
  case pointSet f =>
    cases h
    refine changes_indexed s _ f fun s p => ?_
    unfold pointSetReply
    split
    · exact .refl _ s
    · exact ⟨fun _ _ => rfl, fun _ _ => rfl, fun h => absurd rfl (h f), fun _ => rfl, fun _ => ⟨rfl, rfl, rfl, rfl⟩,
        fun _ => rfl, rfl⟩
  case timebaseConfig f =>
    cases h
    refine changes_takeFrame s _ f fun s => ?_
    unfold timebaseConfigReply
    split
    · exact .refl _ s
    · exact ⟨fun _ _ => rfl, fun _ _ => rfl, fun _ => rfl, fun _ => rfl, fun h => absurd rfl (h f), fun _ => rfl, rfl⟩
  case timebaseLoad f =>
    cases h
    exact changes_takeFrame s _ f fun s => (keeps_setTimebase (b := { s.timebase with pendingLoad := some (f.half 2) })
      rfl rfl rfl rfl).changes
  case portConfig f =>
    cases h
    refine changes_takeFrame s _ f fun s => ?_
    unfold portConfigReply
    split
    · exact .refl _ s
    · exact ⟨fun _ _ => rfl, fun _ _ => rfl, fun _ => rfl, fun h => absurd rfl (h f), fun _ => ⟨rfl, rfl, rfl, rfl⟩,
        fun _ => rfl, rfl⟩
  case queuePop f =>
    cases h
    refine changes_takeFrame s _ f fun s => ?_
    unfold queuePopReply
    split
    · exact .refl _ s
    · exact ⟨fun _ _ => rfl, fun _ _ => rfl, fun _ => rfl, fun _ => rfl, fun _ => ⟨rfl, rfl, rfl, rfl⟩, fun _ => rfl, rfl⟩
  case irqConfig f =>
    cases h
    refine changes_takeFrame s _ f fun s => ?_
    unfold irqConfigReply
    split
    · exact .refl _ s
    · exact ⟨fun _ _ => rfl, fun _ _ => rfl, fun _ => rfl, fun _ => rfl, fun _ => ⟨rfl, rfl, rfl, rfl⟩,
        fun h => absurd rfl (h f), rfl⟩
  case unknownCmd code f =>
    simp only [exec, execUnknownCmd] at h
    split at h
    · cases h
    · cases h; exact changes_takeFrame s _ f (.refl _)
  case frameWithoutCompleteByte bits =>
    cases h
    unfold State.takeShortFrame
    split
    · exact .refl _ s
    · split <;> exact (ChangesOnlyItsOwn.refl _ (s.setLink s.link)).between_links s.link _
  case acceptance x =>
    simp only [exec, execAcceptance] at h
    split at h
    · cases h; exact (keeps_whenRunning s fun s => keeps_acceptTransaction s x).changes
    · cases h
  case judgement => cases h; exact (keeps_whenRunning s fun s => keeps_judge keeps_betweenBeats s).changes
  case transactionResponse => cases h; exact (keeps_whenRunning s keeps_respond).changes
  case grant => cases h; exact (keeps_whenRunning s keeps_grantOne).changes
  case response t answer data => cases h; exact (keeps_whenRunning s fun s => keeps_takeResponse s t answer data).changes
  case responseTimeout t => cases h; exact (keeps_whenRunning s fun s => keeps_timeOut s t).changes
  case taking => cases h; exact (keeps_whenRunning s keeps_takeNext).changes
  case settlingEnd =>
    cases h
    refine (keeps_whenRunning s fun s => ?_).changes
    split
    · exact (keeps_settleOn s).trans (keeps_grantAll _)
    · exact .refl s
  case releaseCompletion =>
    cases h
    refine (keeps_whenRunning s fun s => ?_).changes
    split
    · exact (keeps_endRelease ..).trans (keeps_grantAll _)
    · exact .refl s
  case lineTimerExpiry => cases h; exact (keeps_whenRunning s keeps_expireLine).changes
  case fsyncEdge low high =>
    cases h
    exact (keeps_whenRunning s fun s => keeps_sampleEdge _ _ low high (fun _ _ => keeps_setMissed ..) keeps_takeFsync).changes
  case trigEdge low high =>
    cases h
    refine (keeps_whenRunning s fun s => ?_).changes
    split
    · exact .refl s
    · exact (keeps_setTrigLevel ..).trans
        (keeps_sampleEdge _ _ low high (fun _ _ => keeps_setMissed ..) keeps_takeTrig)
  case deadlineExpiry g =>
    cases h
    exact (keeps_whenRunning s fun s => (keeps_expiryNotice s g).trans (keeps_takeIfAppended ..)).changes
  case resetRelease trigHigh csLow =>
    cases h
    split
    · exact ⟨fun _ _ => rfl, fun _ _ => rfl, fun _ => rfl, fun _ => rfl, fun _ => ⟨rfl, rfl, rfl, rfl⟩, fun _ => rfl, rfl⟩
    · exact .refl _ s

/-- Settles O59: the resets keep the queue of commands, every other command all that is not its own. -/
theorem configurationChangesOnlyByItsCommand : Obligations.ConfigurationChangesOnlyByItsCommand := by
  unfold Obligations.ConfigurationChangesOnlyByItsCommand
  refine fun c s t h => ⟨?_, fun hp hr => ?_⟩
  · by_cases hp : c = .powerOnReset
    · subst hp
      cases h
      rfl
    · by_cases hr : ∃ n, c = .rstN n
      · obtain ⟨n, rfl⟩ := hr
        cases h
        exact pending_lowerResetPin s n
      · exact (changesOnlyItsOwn_exec hp (fun n e => hr ⟨n, e⟩) h).pending
  · have hc := changesOnlyItsOwn_exec hp hr h
    exact ⟨hc.config, hc.windows, hc.points, hc.timeout, hc.timebase, hc.irq⟩

end Sys2Proof.Machine
end

section
/-!
The notices of the launch unit: expired deadlines (R25, R142), and what a mark does to every group (R138, R139).
-/
namespace Sys2Proof.Machine

open Safety

variable {s t u p : State} {g k : GroupId} {m : Mark}

/-! ## Expiry notices (R25, R142) -/

theorem expired_iff (r : GroupRecord) : r.expired = true ↔ r.state = .armed ∧ r.deadlineRemaining = some 0 := by
  simp [GroupRecord.expired]

theorem expiryNotice_of_not_expired (h : ¬ Expires s g) :
    s.expiryNotice g = s :=
  if_neg (mt (expired_iff _).mp h)

theorem expiryNotice_force (h : Expires s g)
    (ha : (s.group g).config.deadlineAction = .force) : s.expiryNotice g =
      { s.setGroup g { s.group g with state := .pending, deadlineRemaining := none, forced := true } with
        launchQueue := s.launchQueue ++ [g] } := by
  rcases expiryNotice_cases s g with ⟨hn, -⟩ | ⟨-, -, e⟩ | ⟨-, hc, -⟩
  · exact absurd ((expired_iff _).mpr h) (by simp [hn])
  · exact e
  · exact absurd (ha.symm.trans hc) (by simp)

theorem expiryNotice_cancel (h : Expires s g)
    (ha : (s.group g).config.deadlineAction = .cancel) : s.expiryNotice g = (cancelRecorded s g).breakSuccessors g := by
  rcases expiryNotice_cases s g with ⟨hn, -⟩ | ⟨-, hf, -⟩ | ⟨-, -, e⟩
  · exact absurd ((expired_iff _).mpr h) (by simp [hn])
  · exact absurd (ha.symm.trans hf) (by simp)
  · rw [e, offerPlain_eq]
    rfl

theorem exec_deadlineExpiry (h : TakesEvents s) :
    exec (.deadlineExpiry g) s = .next ((s.expiryNotice g).takeIfAppended s.launchQueue.length) :=
  congrArg _ (State.whenRunning_taken h)

/-- R81, R139: an event that has put no group into the launch queue takes none. -/
theorem takeIfAppended_same (h : t.launchQueue = s.launchQueue) : t.takeIfAppended s.launchQueue.length = t := by
  simp [State.takeIfAppended, h]

/-- R25: a cancelled deadline leaves the launch queue alone. -/
theorem launchQueue_cancelled : ((cancelRecorded s g).breakSuccessors g).launchQueue = s.launchQueue := by
  rw [breakSuccessors_rest]
  rfl

/-- Settles O49, by what the expiry notice does. -/
theorem deadlineExpiryForcesOrCancels : Obligations.DeadlineExpiryForcesOrCancels := by
  unfold Obligations.DeadlineExpiryForcesOrCancels
  intro s p g h hp
  have forced (hs : (s.group g).state = .armed) (hd : (s.group g).deadlineRemaining = some 0)
      (ha : (s.group g).config.deadlineAction = .force) : exec (.deadlineExpiry g) s = .next p.takeNext := by
    rw [exec_deadlineExpiry h, expiryNotice_force ⟨hs, hd⟩ ha, ← hp, takeIfAppended_append (by rw [hp])]
  have cancelled (hs : (s.group g).state = .armed) (hd : (s.group g).deadlineRemaining = some 0)
      (ha : (s.group g).config.deadlineAction = .cancel) :
      exec (.deadlineExpiry g) s = .next ((cancelRecorded s g).breakSuccessors g) := by
    rw [exec_deadlineExpiry h, expiryNotice_cancel ⟨hs, hd⟩ ha, takeIfAppended_same launchQueue_cancelled]
  refine ⟨fun hs => ?_, fun hs hd ha => ⟨fun hn => ?_, fun _ => ?_⟩, fun hs hd ha => ?_, fun hs hd ha hn => ?_⟩
  · rw [exec_deadlineExpiry h, expiryNotice_of_not_expired (not_and_or.mpr hs), takeIfAppended_same rfl]
  · rw [forced hs hd ha, takeNext_of_not_idle (by rw [hp]; exact hn)]
  · rw [forced hs hd ha, exec_taking (by rw [hp]; exact h)]
  · exact ⟨_, broke_breakSuccessors _ g, cancelled hs hd ha⟩
  · have hn : NoSuccessor (cancelRecorded s g) g := noSuccessor_setGroup (r := emptiedRecord (s.group g)) hn (by simp)
    rw [cancelled hs hd ha, breakSuccessors_of_noSuccessor hn]

end Sys2Proof.Machine
end

section
/-!
What a mark does to every group, the launch queue and the engine (R128, R138, R139).
-/
namespace Sys2Proof.Machine

open Safety

variable {s t u : State} {g k : GroupId} {m : Mark}

/-! ## Operations that turn one group's record and may put it into the launch queue -/

/-- The record of `g` becomes `turn` of it, and `g` is put at the end of the launch queue when `queues` says so. -/
def State.turnGroup (turn : GroupId → GroupRecord → GroupRecord) (queues : GroupId → GroupRecord → Bool) (s : State)
    (g : GroupId) : State :=
  (s.setGroup g (turn g (s.group g))).setLaunchQueue
    (if queues g (s.group g) then s.launchQueue ++ [g] else s.launchQueue)

theorem group_turnGroup (turn : GroupId → GroupRecord → GroupRecord) (queues : GroupId → GroupRecord → Bool) (s : State)
    (g k : GroupId) : (s.turnGroup turn queues g).group k = if k = g then turn g (s.group g) else s.group k := by
  rw [State.turnGroup, State.setLaunchQueue_group, State.group_setGroup]

/-- R139: several groups turned one after another, in the order given: each from the record that it has. -/
theorem foldl_turnGroup (turn : GroupId → GroupRecord → GroupRecord) (queues : GroupId → GroupRecord → Bool)
    {l : List GroupId} (hl : l.Nodup) (s : State) :
    (∀ k, (l.foldl (State.turnGroup turn queues) s).group k = if k ∈ l then turn k (s.group k) else s.group k) ∧
      l.foldl (State.turnGroup turn queues) s = { s with
        groups := (l.foldl (State.turnGroup turn queues) s).groups
        launchQueue := s.launchQueue ++ l.filter fun k => queues k (s.group k) } := by
  induction l generalizing s with
  | nil => exact ⟨fun k => (if_neg List.not_mem_nil).symm, by simp⟩
  | cons g l ih =>
    obtain ⟨hg, hl⟩ := List.nodup_cons.mp hl
    obtain ⟨hgroup, hrest⟩ := ih hl (s.turnGroup turn queues g)
    have same {k : GroupId} (hk : k ∈ l) : (s.turnGroup turn queues g).group k = s.group k :=
      (group_turnGroup ..).trans (if_neg (ne_of_mem_of_not_mem hk hg))
    refine ⟨fun k => ?_, ?_⟩
    · rw [List.foldl_cons, hgroup k]
      by_cases hk : k ∈ l
      · rw [if_pos hk, if_pos (List.mem_cons_of_mem _ hk), same hk]
      · rw [if_neg hk, group_turnGroup]
        by_cases e : k = g
        · rw [if_pos e, if_pos (by simp [e]), e]
        · rw [if_neg e, if_neg (by simp [e, hk])]
    · have hq : (s.turnGroup turn queues g).launchQueue ++ (l.filter fun k => queues k ((s.turnGroup turn queues g).group k)) =
          s.launchQueue ++ (g :: l).filter fun k => queues k (s.group k) := by
        rw [List.filter_congr fun k hk => by rw [same hk], List.filter_cons]
        simp only [State.turnGroup, State.setLaunchQueue]
        split <;> simp
      rw [List.foldl_cons, hrest, hq]
      rfl

/-- Two ways of treating a group agree on the records that they meet. -/
theorem foldl_eq_turnGroup {turn : GroupId → GroupRecord → GroupRecord} {queues : GroupId → GroupRecord → Bool}
    {P : GroupId → GroupRecord → Prop} {f : State → GroupId → State}
    (hf : ∀ s g, P g (s.group g) → f s g = s.turnGroup turn queues g) {l : List GroupId} (hl : l.Nodup) {s : State}
    (h : ∀ g ∈ l, P g (s.group g)) : l.foldl f s = l.foldl (State.turnGroup turn queues) s := by
  induction l generalizing s with
  | nil => rfl
  | cons g l ih =>
    obtain ⟨hg, hl⟩ := List.nodup_cons.mp hl
    rw [List.foldl_cons, List.foldl_cons, hf s g (h g List.mem_cons_self)]
    refine ih hl fun k hk => ?_
    rw [group_turnGroup, if_neg (ne_of_mem_of_not_mem hk hg)]
    exact h k (List.mem_cons_of_mem _ hk)

theorem nodup_allGroups : allGroups.Nodup := by decide

/-! ## What a mark fires (R128, R138) -/

theorem fires_iff (p : LaunchPoint) (m : Mark) : p.fires m = true ↔ PointFires p m := by
  unfold LaunchPoint.fires PointFires
  cases p.lineCheck <;> simp [and_assoc]

theorem markFires_iff (s : State) (m : Mark) (g : GroupId) : s.markFires m g = true ↔ MarkFires s m g := by
  unfold State.markFires State.conditionFires MarkFires
  cases (s.group g).condition with
  | none => simp
  | some c => cases c <;> simp [fires_iff]

/-! ## The first step of a mark (R138) -/

theorem lowerDeadline_eq (r : GroupRecord) : r.lowerDeadline = loweredRecord r := by
  unfold GroupRecord.lowerDeadline loweredRecord
  cases r.state <;> rfl

/-- R138: what the first step of a mark makes of a record. -/
def lowering (m : Mark) (fires : GroupId → Bool) (g : GroupId) (r : GroupRecord) : GroupRecord :=
  if m.kind = .frame ∧ fires g = false then loweredRecord r else r

theorem lowerOne_eq (m : Mark) (fires : GroupId → Bool) (s : State) (g : GroupId) :
    State.lowerOne m fires s g = s.turnGroup (lowering m fires) (fun _ _ => false) g := by
  unfold State.lowerOne State.turnGroup lowering
  simp only [Bool.and_eq_true, beq_iff_eq, Bool.not_eq_true', Bool.false_eq_true, if_false]
  split
  · exact congrArg (s.setGroup g) (lowerDeadline_eq _)
  · rw [State.setGroup_group]
    rfl

/-- R138: the part after the first step of a mark. -/
def State.lowered (s : State) (m : Mark) : State := allGroups.foldl (State.lowerOne m (s.markFires m)) s

theorem lowered_spec (s : State) (m : Mark) :
    (∀ g, (s.lowered m).group g = if m.kind = .frame ∧ ¬ MarkFires s m g then loweredRecord (s.group g) else s.group g) ∧
      s.lowered m = { s with groups := (s.lowered m).groups } := by
  have hl : s.lowered m = allGroups.foldl (State.turnGroup (lowering m (s.markFires m)) fun _ _ => false) s :=
    congrFun (congrFun (congrArg _ (funext fun s => funext (lowerOne_eq m _ s))) s) allGroups
  obtain ⟨hg, hr⟩ := foldl_turnGroup (lowering m (s.markFires m)) (fun _ _ => false) nodup_allGroups s
  rw [← hl] at hg hr
  refine ⟨fun g => ?_, ?_⟩
  · rw [hg, if_pos (mem_allGroups g)]
    exact if_congr (by rw [← Bool.not_eq_true, markFires_iff]) rfl rfl
  · rw [hr]
    simp

/-! ## The notices of a mark (R138, R139) -/

theorem noticeTaken_markNotice {fires : GroupId → Bool} {p : Prop} (hp : fires g = true ↔ p) (s : State) :
    NoticeTaken p s g (State.markNotice fires s g) := by
  have silent (h : ¬ p) : State.markNotice fires s g = s.expiryNotice g := if_neg (mt hp.mp h)
  refine ⟨fun h => ?_, fun h he => ?_, fun h he ha => ?_, fun h he ha => ?_⟩
  · exact (if_pos (hp.mpr h)).trans (firingNotice_eq ..)
  · rw [silent h, expiryNotice_of_not_expired he]
  · rw [silent h, expiryNotice_force he ha]
  · rw [silent h, expiryNotice_cancel he ha]
    exact broke_breakSuccessors _ g

/-- R139: what a notice never does: change the engine, or take a group out of the launch queue. -/
structure OnlyNotifies (s t : State) : Prop where
  engine : t.engine = s.engine
  inReset : t.inReset = s.inReset
  clkRuns : t.clkRuns = s.clkRuns
  queue : s.launchQueue <+: t.launchQueue

theorem OnlyNotifies.trans (h : OnlyNotifies s t) (k : OnlyNotifies t u) : OnlyNotifies s u :=
  ⟨k.engine.trans h.engine, k.inReset.trans h.inReset, k.clkRuns.trans h.clkRuns, h.queue.trans k.queue⟩

theorem onlyNotifies_markNotice (fires : GroupId → Bool) (s : State) (g : GroupId) :
    OnlyNotifies s (State.markNotice fires s g) := by
  unfold State.markNotice
  split
  · rw [firingNotice_eq]
    refine ⟨rfl, rfl, rfl, ?_⟩
    simp only [State.setLaunchQueue_launchQueue]
    split
    · exact List.prefix_append ..
    · exact List.prefix_refl _
  · rcases expiryNotice_cases s g with ⟨-, e⟩ | ⟨-, -, e⟩ | ⟨-, -, e⟩ <;> rw [e]
    · exact ⟨rfl, rfl, rfl, List.prefix_refl _⟩
    · exact ⟨rfl, rfl, rfl, List.prefix_append ..⟩
    · rw [breakSuccessors_rest, offerPlain_eq]
      exact ⟨rfl, rfl, rfl, List.prefix_refl _⟩

/-- R139: the part after the notices of the first `i` groups. -/
def State.noticed (s : State) (m : Mark) (i : Fin 9) : State :=
  (allGroups.take i).foldl (State.markNotice (s.markFires m)) (s.lowered m)

theorem noticed_succ (s : State) (m : Mark) (g : GroupId) :
    s.noticed m g.succ = State.markNotice (s.markFires m) (s.noticed m g.castSucc) g := by
  have ht : ∀ g : GroupId, allGroups.take g.succ = allGroups.take g.castSucc ++ [g] := by decide
  rw [State.noticed, ht, List.foldl_append]
  rfl

theorem onlyNotifies_noticed (s : State) (m : Mark) (i : Fin 9) : OnlyNotifies s (s.noticed m i) := by
  have h0 : OnlyNotifies s (s.lowered m) := by
    rw [(lowered_spec s m).2]
    exact ⟨rfl, rfl, rfl, List.prefix_refl _⟩
  exact List.foldlRecOn _ _ h0 fun t ht g _ => ht.trans (onlyNotifies_markNotice _ t g)

/-- R81, R139: after the last notice an IDLE engine takes the head, when groups were appended to the launch queue. -/
theorem takeIfAppended_of_onlyNotifies (h : OnlyNotifies s t) (hs : TakesEvents s) :
    ((s.engine.state ≠ .idle ∨ t.launchQueue = s.launchQueue) → t.takeIfAppended s.launchQueue.length = t) ∧
      (t.launchQueue ≠ s.launchQueue → exec .taking t = .next (t.takeIfAppended s.launchQueue.length)) := by
  have appended (hq : t.launchQueue ≠ s.launchQueue) : t.takeIfAppended s.launchQueue.length = t.takeNext :=
    if_pos (lt_of_le_of_ne h.queue.length_le fun e => hq (h.queue.eq_of_length e).symm)
  refine ⟨fun hn => ?_, fun hq => ?_⟩
  · by_cases hq : t.launchQueue = s.launchQueue
    · exact takeIfAppended_same hq
    · rw [appended hq, takeNext_of_not_idle (h.engine ▸ hn.resolve_right hq)]
  · rw [appended hq, exec_taking ⟨h.inReset.trans hs.1, h.clkRuns.trans hs.2⟩]

/-! ## A mark that cancels no group (R138) -/

/-- R24, R25: what the notice of a mark makes of a record when it does not cancel. -/
def notified (fires : GroupId → Bool) (g : GroupId) (r : GroupRecord) : GroupRecord :=
  if fires g then firedRecord r
  else if r.state = .armed ∧ r.deadlineRemaining = some 0 then
    { r with state := .pending, deadlineRemaining := none, forced := true }
  else r

/-- R139: the groups that a mark puts into the launch queue. -/
def becomesPending (fires : GroupId → Bool) (g : GroupId) (r : GroupRecord) : Bool :=
  decide (r.state = .armed) && (fires g || decide (r.deadlineRemaining = some 0))

/-- R25: the mark does not cancel the group. -/
def NotCancelled (fires : GroupId → Bool) (g : GroupId) (r : GroupRecord) : Prop :=
  fires g = false → r.state = .armed → r.deadlineRemaining = some 0 → r.config.deadlineAction = .force

theorem markNotice_eq {fires : GroupId → Bool} (h : NotCancelled fires g (s.group g)) :
    State.markNotice fires s g = s.turnGroup (notified fires) (becomesPending fires) g := by
  unfold State.markNotice State.turnGroup notified becomesPending
  by_cases hf : fires g
  · simp only [hf, if_true, firingNotice_eq, Bool.true_or, Bool.and_true, decide_eq_true_eq]
  · simp only [hf, Bool.false_eq_true, if_false, Bool.false_or, Bool.and_eq_true, decide_eq_true_eq]
    by_cases he : Expires s g
    · rw [if_pos he, if_pos he, expiryNotice_force he (h (by simpa using hf) he.1 he.2)]
      rfl
    · rw [if_neg he, if_neg he, expiryNotice_of_not_expired he, State.setGroup_group]
      rfl

/-- R24, R25, R138: what a mark that cancels no group makes of a record, from the record as it was before the mark. -/
theorem notified_lowering {fires : GroupId → Bool} {r : GroupRecord} (h0 : r.deadlineRemaining ≠ some 0) :
    (fires g = true → notified fires g (lowering m fires g r) = firedRecord r) ∧
      (fires g = false → (m.kind = .line ∨ r.state ≠ .armed ∨ r.deadlineRemaining = none) →
        notified fires g (lowering m fires g r) = r) ∧
      (∀ n, fires g = false → m.kind = .frame → r.state = .armed → r.deadlineRemaining = some (n + 1) →
        notified fires g (lowering m fires g r) =
          if n = 0 then { r with state := .pending, deadlineRemaining := none, forced := true }
          else { r with deadlineRemaining := some n }) := by
  refine ⟨fun hf => ?_, fun hf hr => ?_, fun n hf hm hs hd => ?_⟩
  · simp [notified, lowering, hf]
  · have hl : lowering m fires g r = r := by
      unfold lowering loweredRecord
      rcases hr with hr | hr | hr
      · simp [hr]
      · simp [hr]
      · split
        · split
          · obtain ⟨⟩ := r
            cases hr
            rfl
          · rfl
        · rfl
    simp [notified, hf, hl, h0]
  · simp only [notified, lowering, hf, hm, hs, hd, loweredRecord, and_self, if_true, Option.map_some, Nat.add_sub_cancel,
      Option.some.injEq, true_and, Bool.false_eq_true, if_false]

theorem becomesPending_lowering {fires : GroupId → Bool} {r : GroupRecord} :
    becomesPending fires g (lowering m fires g r) = true ↔
      r.state = .armed ∧ (notified fires g (lowering m fires g r)).state = .pending := by
  have hs : (lowering m fires g r).state = r.state := by
    unfold lowering loweredRecord
    split
    · split <;> rfl
    · rfl
  unfold becomesPending notified
  rw [Bool.and_eq_true, decide_eq_true_eq, hs]
  refine and_congr_right fun ha => ?_
  by_cases hf : fires g
  · simp [hf, firedRecord, hs, ha]
  · by_cases hd : (lowering m fires g r).deadlineRemaining = some 0 <;> simp [hf, hd, hs, ha]

/-- R25, R138: a mark cancels no group when every deadline that it brings to 0 has the action FORCE. -/
theorem notCancelled_lowering {fires : GroupId → Bool} {r : GroupRecord} (h0 : r.deadlineRemaining ≠ some 0)
    (h : m.kind = .frame → fires g = false → r.state = .armed → r.deadlineRemaining = some 1 →
      r.config.deadlineAction = .force) : NotCancelled fires g (lowering m fires g r) := by
  intro hf
  unfold lowering loweredRecord
  split
  · next hm =>
    split
    · next ha =>
      intro _ hd
      obtain ⟨n, hn, hn0⟩ := Option.map_eq_some_iff.mp hd
      have : n ≠ 0 := fun e => h0 (e ▸ hn)
      exact h hm.1 hf ha (by rw [hn, show n = 1 by omega])
    · next ha => exact fun e => absurd e ha
  · exact fun _ e => absurd e h0

/-- R138, R139: a mark that cancels no group turns each record, and puts groups into the launch queue, in one go. -/
theorem noticed_of_notCancelled (h : ∀ g, NotCancelled (s.markFires m) g (lowering m (s.markFires m) g (s.group g))) :
    (∀ g, (s.noticed m 8).group g = notified (s.markFires m) g (lowering m (s.markFires m) g (s.group g))) ∧
      s.noticed m 8 = { s with
        groups := (s.noticed m 8).groups
        launchQueue := s.launchQueue ++ allGroups.filter fun g =>
          becomesPending (s.markFires m) g (lowering m (s.markFires m) g (s.group g)) } := by
  have hg (g : GroupId) : (s.lowered m).group g = lowering m (s.markFires m) g (s.group g) := by
    rw [(lowered_spec s m).1]
    exact if_congr (by rw [← Bool.not_eq_true, markFires_iff]) rfl rfl
  have hu : s.noticed m 8 = allGroups.foldl
      (State.turnGroup (notified (s.markFires m)) (becomesPending (s.markFires m))) (s.lowered m) :=
    foldl_eq_turnGroup (P := NotCancelled (s.markFires m)) (fun _ _ => markNotice_eq) nodup_allGroups
      fun g _ => hg g ▸ h g
  obtain ⟨hgroup, hrest⟩ := foldl_turnGroup (notified (s.markFires m)) (becomesPending (s.markFires m)) nodup_allGroups
    (s.lowered m)
  rw [← hu] at hgroup hrest
  refine ⟨fun g => ?_, ?_⟩
  · rw [hgroup, if_pos (mem_allGroups g), hg]
  · simp only [hg] at hrest
    rw [hrest, (lowered_spec s m).2]

/-- Settles O47: the two steps of a mark, and its one line when it cancels no group. -/
theorem marksFireAndExpire : Obligations.MarksFireAndExpire := by
  unfold Obligations.MarksFireAndExpire
  refine ⟨fires_iff, fun s m hs _ => ?_, fun s m hs h0 hf => ?_⟩
  · have hn := onlyNotifies_noticed s m 8
    refine ⟨s.noticed m, (lowered_spec s m).1, (lowered_spec s m).2, fun g => ?_, ?_, fun _ hq => ?_⟩
    · rw [noticed_succ]
      exact noticeTaken_markNotice (markFires_iff s m g) _
    · exact (takeIfAppended_of_onlyNotifies hn hs).1
    · exact (takeIfAppended_of_onlyNotifies hn hs).2 hq
  · have fires (g : GroupId) : s.markFires m g = false ↔ ¬ MarkFires s m g := by rw [← markFires_iff, Bool.not_eq_true]
    obtain ⟨hgroup, hrest⟩ := noticed_of_notCancelled (s := s) (m := m) fun g =>
      notCancelled_lowering (h0 g) fun hm hn => hf g hm ((fires g).mp hn)
    have hn := onlyNotifies_noticed s m 8
    have hq : (s.noticed m 8).launchQueue = s.launchQueue ++ allGroups.filter fun g =>
        becomesPending (s.markFires m) g (lowering m (s.markFires m) g (s.group g)) := congrArg State.launchQueue hrest
    refine ⟨s.noticed m 8, _, fun g => ?_, pairwise_allGroups_filter _, fun g => ?_, hrest, fun hi => ?_, fun _ hne => ?_⟩
    · obtain ⟨h1, h2, h3⟩ := notified_lowering (g := g) (m := m) (fires := s.markFires m) (h0 g)
      rw [hgroup g]
      exact ⟨fun h => h1 ((markFires_iff ..).mpr h), fun h => h2 ((fires g).mpr h), fun n h => h3 n ((fires g).mpr h)⟩
    · rw [List.mem_filter, hgroup g]
      exact (and_iff_right (mem_allGroups g)).trans becomesPending_lowering
    · exact (takeIfAppended_of_onlyNotifies hn hs).1 (hi.imp_right fun e => by rw [hq, e, List.append_nil])
    · refine (takeIfAppended_of_onlyNotifies hn hs).2 fun e => hne ?_
      rwa [hq, List.append_right_eq_self] at e

end Sys2Proof.Machine
end

section
/-!
The completion of a release: the group's own record, and the groups that it fires (R27, R137).
-/
namespace Sys2Proof.Machine

open Safety

variable {s t u : State} {g k : GroupId} {written failed : Nat}

/-! ## Firing several groups (R24, R139) -/

theorem fireGroups_spec {gs : List GroupId} (hl : gs.Nodup) (s : State) :
    (∀ k, (s.fireGroups gs).group k = if k ∈ gs then firedRecord (s.group k) else s.group k) ∧
      s.fireGroups gs = { s with
        groups := (s.fireGroups gs).groups
        launchQueue := s.launchQueue ++ gs.filter fun k => (s.group k).state = .armed } := by
  have hf : State.firingNotice = State.turnGroup (fun _ => firedRecord) fun _ r => decide (r.state = .armed) := by
    funext s g
    rw [firingNotice_eq]
    simp [State.turnGroup]
  unfold State.fireGroups
  rw [hf]
  exact foldl_turnGroup _ _ hl s

/-! ## The group's own record (R27) -/

/-- R27: the part once the release of `g` has been recorded, reported and its group returned to IDLE or ARMED, before any group
is fired. -/
def State.settledBy (s : State) (g : GroupId) (written failed : Nat) : State :=
  ((s.modifyGroup g (GroupRecord.endRelease written failed)).offerReleased g).settleCompleted g

theorem completeGroup_eq (s : State) (g : GroupId) (written failed : Nat) : s.completeGroup g written failed =
    (s.settledBy g written failed).fireGroups ((s.settledBy g written failed).firedByCompletion g) := rfl

theorem offerReleased_eq (s : State) (g : GroupId) : s.offerReleased g =
    { withRecord s (releaseRecord s .released g (s.group g).report (s.group g).recordFlags) with
      reported := countsReported s g } := by
  unfold State.offerReleased
  rw [offer_eq]
  rfl

theorem setGroup_setGroup (s : State) (g : GroupId) (a b : GroupRecord) : (s.setGroup g a).setGroup g b = s.setGroup g b := by
  simp [State.setGroup]

theorem settleCompleted_oneShot (h : (s.group g).repeatsRemaining = 0) : s.settleCompleted g =
    (s.setGroup g (s.group g).clearFlags.toIdle).setFree (s.free + (s.group g).entries.length) := by
  have hc (n : Nat) (a b : GroupRecord) : ((s.setGroup g a).setFree n).setGroup g b = (s.setGroup g b).setFree n :=
    congrArg (State.setFree · n) (setGroup_setGroup s g a b)
  unfold State.settleCompleted
  rw [if_neg (by omega), emptyGroup_eq, State.modifyGroup, State.group_setGroup_self, hc]
  rfl

theorem settleCompleted_repeating (h : (s.group g).repeatsRemaining ≠ 0) :
    s.settleCompleted g = s.setGroup g (s.group g).clearFlags.rearm :=
  if_pos (Nat.pos_of_ne_zero h)

theorem completedRecord_oneShot {r : GroupRecord} (h : r.repeatsRemaining = 0) :
    completedRecord r written failed = (r.endRelease written failed).clearFlags.toIdle := by
  rw [completedRecord, if_pos h]
  simp [h, GroupRecord.endRelease, GroupRecord.clearFlags, GroupRecord.toIdle]

theorem completedRecord_repeating {r : GroupRecord} (h : r.repeatsRemaining ≠ 0) :
    completedRecord r written failed = (r.endRelease written failed).clearFlags.rearm := if_neg h

theorem settledBy_eq (s : State) (g : GroupId) (written failed : Nat) : s.settledBy g written failed =
    { withRecord (s.setGroup g (completedRecord (s.group g) written failed))
        (releaseRecord s .released g ⟨(s.group g).sequence + 1, written, failed⟩ (flagsOf (s.group g))) with
      reported := countsReported s g
      free := if (s.group g).repeatsRemaining = 0 then s.free + (s.group g).entries.length else s.free } := by
  have hr : (s.modifyGroup g (GroupRecord.endRelease written failed)).offerReleased g =
      ({ withRecord s (releaseRecord s .released g ⟨(s.group g).sequence + 1, written, failed⟩ (flagsOf (s.group g))) with
        reported := countsReported s g } : State).setGroup g ((s.group g).endRelease written failed) := by
    simp only [offerReleased_eq, countsReported, State.modifyGroup, State.group_setGroup_self]
    rfl
  have hg : ((s.modifyGroup g (GroupRecord.endRelease written failed)).offerReleased g).group g =
      (s.group g).endRelease written failed := by
    rw [hr]
    exact State.group_setGroup_self ..
  unfold State.settledBy
  by_cases h : (s.group g).repeatsRemaining = 0
  · rw [settleCompleted_oneShot (by rw [hg]; exact h), hg, hr, setGroup_setGroup, if_pos h, completedRecord_oneShot h]
    rfl
  · rw [settleCompleted_repeating (by rw [hg]; exact h), hg, hr, setGroup_setGroup, if_neg h, completedRecord_repeating h]
    rfl

theorem settledBy_group (s : State) (g k : GroupId) (written failed : Nat) : (s.settledBy g written failed).group k =
    if k = g then completedRecord (s.group g) written failed else s.group k := by
  rw [settledBy_eq]
  exact State.group_setGroup ..

/-! ## The groups that a completion fires (R27, R137) -/

/-- R27: after its completion a group has its condition and is ARMED again, or has none. -/
theorem completedRecord_condition (r : GroupRecord) :
    (0 < r.repeatsRemaining → (completedRecord r written failed).state = .armed ∧
      (completedRecord r written failed).condition = r.condition) ∧
      (r.repeatsRemaining = 0 → (completedRecord r written failed).condition = none) := by
  refine ⟨fun h => ?_, fun h => ?_⟩
  · rw [completedRecord, if_neg (by omega)]
    exact ⟨rfl, rfl⟩
  · rw [completedRecord, if_pos h]

/-- R27, R137: whom a completion fires, from the records as they were before it. -/
theorem mem_firedByCompletion (hg : (s.group g).condition ≠ some (.after g)) (k : GroupId) :
    k ∈ (s.settledBy g written failed).firedByCompletion g ↔
      k ≠ g ∧ (s.group k).condition = some (.after g) ∨
        k = g ∧ 0 < (s.group g).repeatsRemaining ∧ (s.group g).condition = some .immediate := by
  simp only [State.firedByCompletion, List.mem_filter, mem_allGroups, true_and, Bool.or_eq_true, Bool.and_eq_true,
    beq_iff_eq, settledBy_group]
  by_cases hk : k = g
  · subst hk
    obtain ⟨hr, hn⟩ := completedRecord_condition (written := written) (failed := failed) (s.group k)
    rcases Nat.eq_zero_or_pos (s.group k).repeatsRemaining with h0 | h0
    · simp [hn h0, h0]
    · simp [hr h0, h0, hg]
  · simp [hk]

theorem nodup_firedByCompletion (s : State) (g : GroupId) : (s.firedByCompletion g).Nodup := nodup_allGroups.filter _

/-- Settles O42: the record of the group itself, and then the firing notices. -/
theorem completionFiresTheSuccessors : Obligations.CompletionFiresTheSuccessors := by
  unfold Obligations.CompletionFiresTheSuccessors
  intro s g written failed hg
  have mem := mem_firedByCompletion (written := written) (failed := failed) hg
  obtain ⟨hgroup, hrest⟩ := fireGroups_spec (nodup_firedByCompletion (s.settledBy g written failed) g)
    (s.settledBy g written failed)
  rw [← completeGroup_eq] at hgroup hrest
  refine ⟨fun k hk => ?_, ?_, ((s.settledBy g written failed).firedByCompletion g).filter fun k =>
    ((s.settledBy g written failed).group k).state = .armed, ?_, fun k => ?_, hrest.trans ?_⟩
  · rw [hgroup, settledBy_group, if_neg hk]
    exact if_congr ((mem k).trans (by simp [hk])) rfl rfl
  · rw [hgroup, settledBy_group, if_pos rfl]
    exact if_congr ((mem g).trans (by simp)) rfl rfl
  · exact (pairwise_allGroups_filter _).filter _
  · rw [List.mem_filter, mem k, settledBy_group, decide_eq_true_eq]
    by_cases hk : k = g
    · subst hk
      obtain ⟨hr, -⟩ := completedRecord_condition (written := written) (failed := failed) (s.group k)
      simp only [ne_eq, not_true_eq_false, false_and, true_and, false_or, if_true]
      exact and_iff_left_of_imp fun h => (hr h.1).1
    · simp [hk, and_comm]
  · rw [settledBy_eq]
    rfl

end Sys2Proof.Machine
end

section
/-!
The start of a release: the taking of the head of the launch queue, the end of the settling, and the first write (R81 to R84).
-/
namespace Sys2Proof.Machine

open Safety

variable {s t u : State} {g k : GroupId} {e : Entry} {tag : TagId} {rest : List GroupId}

/-! ## The grant of a release write (R98, R99) -/

theorem noGrantDue_of_noFreeTag (h : NoFreeTag s.port) : NoGrantDue s := .inl ((freeTag?_eq_none_iff _).mpr h)

theorem noGrantDue_of_nothing_waits (hw : s.port.waiting = []) (he : s.engine.write ≠ .requested) : NoGrantDue s :=
  .inr ((winner_eq_none_iff _).mpr ⟨hw, he⟩)

/-- R98, R99: the engine alone asks for a tag and one is FREE: its write is issued on the lowest. -/
theorem grantAll_issues (hw : s.engine.write = .requested) (hc : s.engine.copy = some e) (ht : IsLowestFree s.port tag)
    (hp : s.port.waiting = []) : s.grantAll = writeIssued s s.engine tag e := by
  have hg : s.grantOne = writeIssued s s.engine tag e := by
    unfold State.grantOne
    rw [(freeTag?_eq_some_iff _ _).mpr ht, (winner_eq_release_iff _).mpr ⟨hw, .inl hp⟩]
    simp only [State.issueRelease, hc]
    rfl
  rw [grantAll_of_grantOne, hg]
  rw [hg]
  exact noGrantDue_of_nothing_waits hp (by simp)

/-! ## The walk (R84) -/

/-- R84: the entry that the next release write carries, by the kind of the release. -/
theorem nextEntry_of_group (hg : s.engine.group = some g) :
    (s.engine.kind = some .oneShot → s.nextEntry = (s.group g).entries[0]?) ∧
      (s.engine.kind = some .repeating → s.nextEntry = (s.group g).entries[s.engine.cursor]?) := by
  unfold State.nextEntry
  exact ⟨fun h => by rw [hg, h], fun h => by rw [hg, h]⟩

/-- R83, R84: SETTLING ends with an entry to write: the engine is DRAINING and asks for a tag. -/
theorem endSettling_of_entry (h : s.nextEntry = some e) (finish : State → State) : s.endSettling finish =
    s.setEngine { s.engine with state := .draining, write := .requested, copy := some e } := by
  have hn : (s.setEngine { s.engine with state := .draining }).nextEntry = some e := h
  unfold State.endSettling State.walkOn
  rw [hn]
  rfl

theorem endSettling_of_end (h : s.nextEntry = none) (finish : State → State) :
    s.endSettling finish = finish (s.setEngine { s.engine with state := .draining }) := by
  have hn : (s.setEngine { s.engine with state := .draining }).nextEntry = none := h
  unfold State.endSettling State.walkOn
  rw [hn]

/-! ## TAKING (R81) -/

theorem takeGroup_eq (s : State) (g : GroupId) (rest : List GroupId) :
    s.takeGroup g rest = { headTaken s g rest with engine := contextTaken s g } := rfl

/-- R84: right after its taking the walk over a group's list stands at its first entry. -/
theorem nextEntry_takeGroup (s : State) (g : GroupId) (rest : List GroupId) :
    (s.takeGroup g rest).nextEntry = (s.group g).entries[0]? := by
  have he : ((s.takeGroup g rest).group g).entries = (s.group g).entries :=
    (congrArg GroupRecord.entries (State.group_setGroup_self s g { s.group g with state := .releasing })).trans rfl
  obtain ⟨h1, h2⟩ := nextEntry_of_group (s := s.takeGroup g rest) (g := g) rfl
  rw [← he]
  by_cases h : (s.group g).repeatsRemaining = 0
  · exact h1 (congrArg some (if_pos h))
  · exact h2 (congrArg some (if_neg h))

theorem takeHead_of_queue (hi : s.engine.state = .idle) (hq : s.launchQueue = g :: rest) : s.takeHead =
    if s.settleCount g = 0 then (s.takeGroup g rest).endSettling fun s => s.finishRelease .complete
    else s.takeGroup g rest := by
  unfold State.takeHead
  rw [hi, hq]
  rfl

theorem takeNext_of_queue (hi : s.engine.state = .idle) (hq : s.launchQueue = g :: rest) :
    s.takeNext = s.takeHead.grantAll := by
  rcases takeNext_cases s with ⟨h | h, -⟩ | ⟨-, -, e⟩
  · exact absurd hi h
  · exact absurd (hq.symm.trans h) (by simp)
  · exact e

theorem takeNext_of_nothing (h : s.engine.state ≠ .idle ∨ s.launchQueue = []) : s.takeNext = s := by
  rcases takeNext_cases s with ⟨-, e⟩ | ⟨h1, h2, -⟩
  · exact e
  · exact absurd h (not_or.mpr ⟨not_not.mpr h1, h2⟩)

/-- R81, R83: an IDLE engine takes a group whose settle count is 0 and which has an entry. -/
theorem takeHead_of_entry (hi : s.engine.state = .idle) (hq : s.launchQueue = g :: rest) (hs : s.settleCount g = 0)
    (he : (s.group g).entries[0]? = some e) : s.takeHead = { headTaken s g rest with
      engine := { contextTaken s g with state := .draining, write := .requested, copy := some e } } := by
  rw [takeHead_of_queue hi hq, if_pos hs, endSettling_of_entry ((nextEntry_takeGroup ..).trans he)]
  rfl

/-! ## SETTLING_END (R83) -/

theorem exec_settlingEnd (h : TakesEvents s) :
    exec .settlingEnd s = .next (if s.isSettled then s.settleOn.grantAll else s) :=
  congrArg _ (State.whenRunning_taken h)

/-- Settles O40: TAKING and SETTLING_END, by whether the settle count is 0 and whether a tag is FREE. -/
theorem takingStartsTheRelease : Obligations.TakingStartsTheRelease := by
  unfold Obligations.TakingStartsTheRelease
  refine ⟨fun s h hn => ?_, fun s g rest h hi hq => ⟨fun hs hp => ?_, fun e es hs he hp => ?_, fun e es t hs he ht hp => ?_⟩,
    fun s h hn => ?_, fun s g e h hs hg h0 he => ?_⟩
  · rw [exec_taking h, takeNext_of_nothing hn]
  · rw [exec_taking h, takeNext_of_queue hi hq, takeHead_of_queue hi hq, if_neg hs, grantAll_of_noGrantDue]
    · rfl
    · rcases hp with hp | hw
      · exact noGrantDue_of_noFreeTag (by exact hp)
      · exact noGrantDue_of_nothing_waits hw (by simp [takeGroup_eq])
  · rw [exec_taking h, takeNext_of_queue hi hq, takeHead_of_entry hi hq hs (by rw [he]; rfl), grantAll_of_noGrantDue]
    exact noGrantDue_of_noFreeTag (by exact hp)
  · rw [exec_taking h, takeNext_of_queue hi hq, takeHead_of_entry hi hq hs (by rw [he]; rfl)]
    exact congrArg _ (grantAll_issues rfl rfl (by exact ht) (by exact hp))
  · have hf : ¬ s.isSettled = true := by
      rw [isSettled_iff]
      rintro ⟨h1, g, hg, h0⟩
      exact hn.elim (fun hn => hn h1) fun hn => hn g hg h0
    rw [exec_settlingEnd h, if_neg hf]
  · have hw : s.isSettled = true := (isSettled_iff s).mpr ⟨hs, g, hg, h0⟩
    have hnext : s.nextEntry = some e := by
      obtain ⟨h1, h2⟩ := nextEntry_of_group hg
      rcases he with ⟨hk, he⟩ | ⟨hk, he⟩
      · exact (h1 hk).trans he
      · exact (h2 hk).trans he
    have hon : s.settleOn = s.setEngine { s.engine with state := .draining, write := .requested, copy := some e } :=
      (if_pos hw).trans (endSettling_of_entry hnext _)
    refine ⟨fun hp => ?_, fun t ht hp => ?_⟩
    · rw [exec_settlingEnd h, if_pos hw, hon, grantAll_of_noGrantDue]
      · rfl
      · exact noGrantDue_of_noFreeTag (by exact hp)
    · rw [exec_settlingEnd h, if_pos hw, hon]
      exact congrArg _ (grantAll_issues rfl rfl (by exact ht) (by exact hp))

end Sys2Proof.Machine
end

section
/-!
What follows in the event that ends a release: judgements, the taking of the next group, and the grants (R64, R89, R98).
-/
namespace Sys2Proof.Machine

open Safety

variable {s t u : State} {g k : GroupId} {tag : TagId} {rest : List GroupId}

/-! ## The grants of one event (R98) -/

/-- R98: the FREE tags of the port. -/
def State.freeTags (s : State) : Finset TagId := Finset.univ.filter fun t => s.port.tags[t] = .free

theorem mem_freeTags (s : State) (t : TagId) : t ∈ s.freeTags ↔ s.port.tags[t] = .free := by simp [State.freeTags]

/-- A FREE tag that becomes BUSY leaves fewer FREE ones. -/
theorem card_freeTags_lt {x : TagState} (ht : s.port.tags[tag] = .free) (hx : x ≠ .free)
    (hu : u.port.tags = s.port.tags.set tag.val x) : u.freeTags.card < s.freeTags.card := by
  refine Finset.card_lt_card (Finset.ssubset_iff_of_subset (fun v hv => ?_) |>.mpr ⟨tag, (mem_freeTags ..).mpr ht, ?_⟩)
  · rw [mem_freeTags] at hv ⊢
    simp only [hu, Fin.getElem_fin, Vector.getElem_set] at hv
    split at hv
    · exact absurd hv hx
    · exact hv
  · simpa [mem_freeTags, hu] using hx

/-- R98: a grant that changes anything uses a FREE tag. -/
theorem grantOne_uses (s : State) : s.grantOne = s ∨ s.grantOne.freeTags.card < s.freeTags.card := by
  rcases grantOne_cases s with e | ⟨t, r, rest, ht, -, -, e⟩ | ⟨t, e', ht, -, -, -, e⟩
  · exact .inl e
  · refine .inr (card_freeTags_lt (x := .busy (.passThrough r) 0 s.port.timeout) ht.1 (by simp) ?_)
    rw [e]
    rfl
  · refine .inr (card_freeTags_lt (x := .busy (.release e') 0 s.port.timeout) ht.1 (by simp) ?_)
    rw [e]
    rfl

/-- R98: after as many grants as tags were FREE no grant changes anything. -/
theorem grantOne_iterate (n : Nat) {s : State} (h : s.freeTags.card ≤ n) :
    (State.grantOne^[n] s).grantOne = State.grantOne^[n] s := by
  induction n generalizing s with
  | zero =>
    refine grantOne_of_noGrantDue (noGrantDue_of_noFreeTag fun t ht => ?_)
    have he : s.freeTags = ∅ := Finset.card_eq_zero.mp (Nat.le_zero.mp h)
    exact absurd ((mem_freeTags s t).mpr ht) (by simp [he])
  | succ n ih =>
    rcases grantOne_uses s with e | hlt
    · rw [Function.iterate_fixed e, e]
    · exact ih (by omega)

theorem grantOne_grantAll (s : State) : s.grantAll.grantOne = s.grantAll :=
  grantOne_iterate 4 (Finset.card_le_univ s.freeTags)

/-- R98: one round of grants is enough. -/
theorem grantAll_grantAll (s : State) : s.grantAll.grantAll = s.grantAll := by
  have h := grantOne_grantAll s
  rw [State.grantAll.eq_1 s.grantAll, h, h, h, h]

theorem takesEvents_quiet (h : TakesEvents s) (k : Quiet s t) : TakesEvents t :=
  ⟨k.inReset.trans h.1, k.clkRuns.trans h.2⟩

/-- R98: four grants, one after another, are the grants of one event. -/
theorem granted_grantAll (h : TakesEvents s) : Granted s s.grantAll := by
  have grant {s : State} (h : TakesEvents s) : exec .grant s = .next s.grantOne := congrArg _ (State.whenRunning_taken h)
  have h1 := takesEvents_quiet h (quiet_grantOne s)
  have h2 := takesEvents_quiet h1 (quiet_grantOne _)
  have h3 := takesEvents_quiet h2 (quiet_grantOne _)
  exact ⟨_, grant h, _, grant h1, _, grant h2, _, grant h3, rfl⟩

/-! ## The group controller and the state of the engine and the port -/

/-- The part with the engine and the memory port as given. -/
def State.withSide (s : State) (p : MemoryPort) (e : Engine) : State := { s with port := p, engine := e }

theorem foldl_withSide {α : Type} {f : State → α → State} {p : MemoryPort} {e : Engine}
    (h : ∀ s a, f (s.withSide p e) a = (f s a).withSide p e) (l : List α) (s : State) :
    l.foldl f (s.withSide p e) = (l.foldl f s).withSide p e := by
  induction l generalizing s with
  | nil => rfl
  | cons a l ih => rw [List.foldl_cons, List.foldl_cons, h, ih]

variable (p : MemoryPort) (e : Engine)

theorem breakSuccessors_withSide (s : State) (g : GroupId) :
    (s.withSide p e).breakSuccessors g = (s.breakSuccessors g).withSide p e := by
  have hw (fuel : Nat) (k : GroupId) : (s.withSide p e).waitsOn g fuel k = s.waitsOn g fuel k := by
    induction fuel generalizing k with
    | zero => rfl
    | succ n ih => rw [waitsOn_succ, waitsOn_succ, funext ih]; rfl
  have hb : (s.withSide p e).brokenBy g = s.brokenBy g := by
    unfold State.brokenBy
    rw [funext (hw 8)]
  unfold State.breakSuccessors
  rw [hb]
  exact foldl_withSide (fun _ _ => rfl) _ s

theorem fireGroups_withSide (s : State) (gs : List GroupId) :
    (s.withSide p e).fireGroups gs = (s.fireGroups gs).withSide p e := by
  refine foldl_withSide (fun s g => ?_) gs s
  rw [firingNotice_eq, firingNotice_eq]
  rfl

theorem completeGroup_withSide (s : State) (g : GroupId) (w f : Nat) :
    (s.withSide p e).completeGroup g w f = (s.completeGroup g w f).withSide p e := by
  have hs : (s.withSide p e).settledBy g w f = (s.settledBy g w f).withSide p e := by
    rw [settledBy_eq, settledBy_eq]
    rfl
  rw [completeGroup_eq, completeGroup_eq, hs, ← fireGroups_withSide]
  rfl

theorem setGroup_withRecord (s : State) (g : GroupId) (a b : GroupRecord) (x : CompletionRecord) :
    (withRecord (s.setGroup g a) x).setGroup g b = withRecord (s.setGroup g b) x :=
  congrArg (withRecord · x) (setGroup_setGroup s g a b)

theorem group_withRecord (s : State) (g : GroupId) (a : GroupRecord) (x : CompletionRecord) :
    (withRecord (s.setGroup g a) x).group g = a := State.group_setGroup_self s g a

/-- R28: a fault is recorded, and then the successors are broken. -/
theorem faultGroup_eq (s : State) (g : GroupId) (written : Nat) :
    s.faultGroup g written 1 = (faultRecorded s g written).breakSuccessors g := by
  unfold State.faultGroup State.modifyGroup
  dsimp only
  rw [offer_eq, State.group_setGroup_self, group_withRecord, setGroup_withRecord]
  rfl

/-- R29: the end of a stop is recorded, and then the successors are broken. -/
theorem discardGroup_eq (s : State) (g : GroupId) (written failed : Nat) :
    s.discardGroup g written failed = (discardRecorded s g written failed).breakSuccessors g := by
  unfold State.discardGroup State.modifyGroup
  dsimp only
  rw [offer_eq, State.group_setGroup_self, emptyGroup_eq, group_withRecord]
  refine congrArg (State.breakSuccessors · g) ?_
  exact congrArg (State.setFree · (s.free + (s.group g).entries.length)) (setGroup_withRecord ..)

theorem faultGroup_withSide (s : State) (g : GroupId) (written : Nat) :
    (s.withSide p e).faultGroup g written 1 = (s.faultGroup g written 1).withSide p e := by
  rw [faultGroup_eq, faultGroup_eq, ← breakSuccessors_withSide]
  rfl

theorem discardGroup_withSide (s : State) (g : GroupId) (written failed : Nat) :
    (s.withSide p e).discardGroup g written failed = (s.discardGroup g written failed).withSide p e := by
  rw [discardGroup_eq, discardGroup_eq, ← breakSuccessors_withSide]
  rfl

/-- R27 to R29: what the group controller does at the end of a release leaves the engine, the memory port, the reset and the
clock as they are. -/
structure SparesSide (s t : State) : Prop where
  engine : t.engine = s.engine
  port : t.port = s.port
  fencedOn : t.fencedOn = s.fencedOn
  inReset : t.inReset = s.inReset
  clkRuns : t.clkRuns = s.clkRuns

theorem sparesSide_breakSuccessors (s : State) (g : GroupId) : SparesSide s (s.breakSuccessors g) := by
  rw [breakSuccessors_rest]
  exact ⟨rfl, rfl, rfl, rfl, rfl⟩

theorem sparesSide_completeGroup (s : State) (g : GroupId) (written failed : Nat) :
    SparesSide s (s.completeGroup g written failed) := by
  rw [completeGroup_eq, (fireGroups_spec (nodup_firedByCompletion ..) _).2, settledBy_eq]
  exact ⟨rfl, rfl, rfl, rfl, rfl⟩

theorem sparesSide_discardGroup (s : State) (g : GroupId) (written failed : Nat) :
    SparesSide s (s.discardGroup g written failed) := by
  rw [discardGroup_eq]
  obtain ⟨h1, h2, h3, h4, h5⟩ := sparesSide_breakSuccessors (discardRecorded s g written failed) g
  exact ⟨h1, h2, h3, h4, h5⟩

/-! ## The end of a release, up to the taking of the next group (R89) -/

/-- R89: the group controller acts on the outcome, the engine becomes IDLE and the fence on the group lifts. -/
theorem finishRelease_eq (h : s.engine.group = some g) (o : ReleaseOutcome) :
    s.finishRelease o = released (s.closeRelease g o) g := by
  rw [finishRelease_of_group h, liftFence_eq]
  rfl

theorem takesEvents_released (h : TakesEvents s) (k : SparesSide s t) : TakesEvents (released t g) :=
  ⟨k.inReset.trans h.1, k.clkRuns.trans h.2⟩

theorem released_withSide {p : MemoryPort} (h : t.port = p) (e : Engine) (g : GroupId) :
    released (t.withSide p e) g = released t g := by
  subst h
  rfl

/-- R81, R83, R88: the release of a group with an empty list ends in the event of its own taking. -/
theorem takeHead_of_end (hi : s.engine.state = .idle) (hq : s.launchQueue = g :: rest) (hs : s.settleCount g = 0)
    (he : (s.group g).entries = []) : s.takeHead = released ((headTaken s g rest).completeGroup g 0 0) g := by
  have hn : (s.takeGroup g rest).nextEntry = none := by rw [nextEntry_takeGroup, he]; rfl
  rw [takeHead_of_queue hi hq, if_pos hs, endSettling_of_end hn, finishRelease_eq (g := g) rfl]
  refine (congrArg (released · g) (completeGroup_withSide s.port _ (headTaken s g rest) g 0 0)).trans ?_
  exact released_withSide (sparesSide_completeGroup (headTaken s g rest) g 0 0).port _ g

theorem takeHead_of_nothing (h : s.engine.state ≠ .idle ∨ s.launchQueue = []) : s.takeHead = s := by
  rcases takeHead_cases s with ⟨-, e⟩ | ⟨g, rest, hi, hq, -⟩
  · exact e
  · rw [hq] at h
    exact absurd h (by simp [hi])

/-! ## The taking and the state of a tag -/

/-- R83, R97: the taking of a group does not look at the tags. -/
theorem takeHead_withTag (s : State) (tag : TagId) (x : TagState) :
    (withTag s tag x).takeHead = withTag s.takeHead tag x := by
  by_cases hi : s.engine.state = .idle
  case neg => rw [takeHead_of_nothing (.inl hi), takeHead_of_nothing (s := withTag s tag x) (.inl hi)]
  cases hq : s.launchQueue with
  | nil => rw [takeHead_of_nothing (.inr hq), takeHead_of_nothing (s := withTag s tag x) (.inr hq)]
  | cons g rest =>
    by_cases hs : s.settleCount g = 0
    · cases he : (s.group g).entries with
      | nil =>
        have hp : ((headTaken s g rest).completeGroup g 0 0).port = s.port := (sparesSide_completeGroup ..).port
        have hc := completeGroup_withSide (withTag s tag x).port s.engine (headTaken s g rest) g 0 0
        rw [takeHead_of_end hi hq hs he, takeHead_of_end (s := withTag s tag x) hi hq hs he]
        refine (congrArg (released · g) hc).trans ?_
        simp only [withTag, released, State.withSide, hp]
        rfl
      | cons w es =>
        have hw : (s.group g).entries[0]? = some w := by rw [he]; rfl
        rw [takeHead_of_entry hi hq hs hw, takeHead_of_entry (s := withTag s tag x) hi hq hs hw]
        rfl
    · rw [takeHead_of_queue hi hq, takeHead_of_queue (s := withTag s tag x) hi hq, if_neg hs,
        if_neg (show (withTag s tag x).settleCount g ≠ 0 from hs)]
      rfl

/-! ## What follows in the same event (R64, R89, R98) -/

/-- R98: what an event may still do to the tag concerned once its release has ended: nothing, or free it. -/
def FreesAtMost (post : State → State) : Prop := post = id ∨ ∃ t, post = fun u => withTag u t .free

theorem takeHead_post {post : State → State} (hp : FreesAtMost post) (s : State) :
    (post s).takeHead = post s.takeHead := by
  rcases hp with rfl | ⟨t, rfl⟩
  · rfl
  · exact takeHead_withTag ..

theorem takesEvents_post {post : State → State} (hp : FreesAtMost post) (h : TakesEvents s) : TakesEvents (post s) := by
  rcases hp with rfl | ⟨t, rfl⟩ <;> exact h

theorem takesEvents_judgeBeforeTaking (h : TakesEvents s) : TakesEvents s.judgeBeforeTaking :=
  judgeBeforeTaking_induction (P := TakesEvents) (fun _ _ k h => takesEvents_quiet h k) (fun _ _ _ h => h) h

/-- R81, R98: the taking with its grants, followed by the grants of the event. -/
theorem takeNext_grantAll (s : State) : s.takeNext.grantAll = s.takeHead.grantAll := by
  rcases takeNext_cases s with ⟨h, e⟩ | ⟨-, -, e⟩ <;> rw [e]
  · rw [takeHead_of_nothing h]
  · exact grantAll_grantAll _

theorem takesEvents_takeHead (h : TakesEvents s) : TakesEvents s.takeHead := by
  rcases takeHead_cases s with ⟨-, e⟩ | ⟨g, rest, hi, hq, ⟨-, e⟩ | ⟨hs, -⟩⟩
  · rwa [e]
  · rwa [e]
  · cases he : (s.group g).entries with
    | nil =>
      rw [takeHead_of_end hi hq hs he]
      exact takesEvents_released (s := headTaken s g rest) h (sparesSide_completeGroup ..)
    | cons w es =>
      rw [takeHead_of_entry hi hq hs (show (s.group g).entries[0]? = some w by rw [he]; rfl)]
      exact h

theorem takesEvents_takeNext (h : TakesEvents s) : TakesEvents s.takeNext := by
  rcases takeNext_cases s with ⟨-, e⟩ | ⟨-, -, e⟩ <;> rw [e]
  · exact h
  · exact takesEvents_quiet (takesEvents_takeHead h) (quiet_grantAll _)

/-- R54: some transaction of the ingress queue waits for its judgement. -/
theorem head?_isSome_iff (s : State) : s.head?.isSome = true ↔ ∃ v ∈ s.ingress, v.dispatched = false := by
  simp [State.head?, List.find?_isSome]

/-- R64, R89, R98: what follows the end of a release in its event. -/
theorem goesOn_of_released {post : State → State} (hp : FreesAtMost post) (h : TakesEvents s) :
    GoesOn s post (post s.judgeBeforeTaking.takeHead).grantAll := by
  refine ⟨Config.judgementsBeforeTaking s.freeIndex % 9, s.judgeBeforeTaking, by omega, ?_, ?_⟩
  · have hc : (s.head?.isSome && !s.launchQueue.isEmpty) = true ↔
        (∃ v ∈ s.ingress, v.dispatched = false) ∧ s.launchQueue ≠ [] := by
      rw [Bool.and_eq_true, head?_isSome_iff]
      simp
    unfold State.judgeBeforeTaking
    split <;> split
    · exact judgeTimes_eq_iterate ..
    · next h1 h2 => exact absurd (hc.mpr h1) h2
    · next h1 h2 => exact absurd (hc.mp h2) h1
    · rfl
  · have ht := takesEvents_post hp (takesEvents_judgeBeforeTaking h)
    rw [← takeHead_post hp, ← takeNext_grantAll]
    exact ⟨_, exec_taking ht, granted_grantAll (takesEvents_takeNext ht)⟩

/-- R89: an event that has ended a release goes on. -/
theorem goesOn_endRelease {post : State → State} (hp : FreesAtMost post) {o : ReleaseOutcome}
    (he : s.finishRelease o = u) (h : TakesEvents u) : GoesOn u post (post (s.endRelease o)).grantAll := by
  rw [State.endRelease, he]
  exact goesOn_of_released hp h

/-- R89, R98: with an empty launch queue and no request waiting nothing more follows. -/
theorem endRelease_alone {o : ReleaseOutcome} (he : s.finishRelease o = u) (hq : u.launchQueue = []) :
    s.endRelease o = u := by
  have hj : u.judgeBeforeTaking = u := if_neg (by simp [hq])
  rw [State.endRelease, he, hj, takeHead_of_nothing (.inr hq)]

theorem grantAll_idle (he : s.engine = {}) (hw : s.port.waiting = []) : s.grantAll = s :=
  grantAll_of_noGrantDue (noGrantDue_of_nothing_waits hw (by simp [he]))

end Sys2Proof.Machine
end

section
/-!
The ends of a release: completed, faulted, or stopped (R27 to R29, R85 to R91).
-/
namespace Sys2Proof.Machine

open Safety

variable {s t u v pre : State} {g k : GroupId} {tag : TagId} {rest : List GroupId} {e : Engine} {w : Entry} {answer : Answer}
  {data : Word} {c : Instr} {post : State → State} {n m : Nat}

/-! ## The outcomes of a release (R89) -/

theorem finishRelease_complete (hg : e.group = some g) :
    (s.setEngine e).finishRelease .complete = released (s.completeGroup g e.written e.failed) g := by
  rw [finishRelease_eq (s := s.setEngine e) hg]
  exact (congrArg (released · g) (completeGroup_withSide s.port e s g e.written e.failed)).trans
    (released_withSide (sparesSide_completeGroup s g _ _).port e g)

theorem sparesSide_faultGroup (s : State) (g : GroupId) (written : Nat) : SparesSide s (s.faultGroup g written 1) := by
  rw [faultGroup_eq]
  obtain ⟨h1, h2, h3, h4, h5⟩ := sparesSide_breakSuccessors (faultRecorded s g written) g
  exact ⟨h1, h2, h3, h4, h5⟩

theorem finishRelease_fault (hg : e.group = some g) (hf : e.failed = 1) :
    (s.setEngine e).finishRelease .fault = released (s.faultGroup g e.written 1) g := by
  have hc : (s.setEngine e).closeRelease g .fault = (s.setEngine e).faultGroup g e.written 1 := by
    rw [← hf]
    rfl
  rw [finishRelease_eq (s := s.setEngine e) hg, hc]
  exact (congrArg (released · g) (faultGroup_withSide s.port e s g e.written)).trans
    (released_withSide (sparesSide_faultGroup s g _).port e g)

theorem finishRelease_discard (hg : e.group = some g) (hc : e.cause = some .discard) :
    (s.setEngine e).finishRelease .stopped = released (s.discardGroup g e.written e.failed) g := by
  have hc : (s.setEngine e).closeRelease g .stopped = (s.setEngine e).discardGroup g e.written e.failed := by
    simp [State.closeRelease, hc]
  rw [finishRelease_eq (s := s.setEngine e) hg, hc]
  exact (congrArg (released · g) (discardGroup_withSide s.port e s g e.written e.failed)).trans
    (released_withSide (sparesSide_discardGroup s g _ _).port e g)

/-- R29, R91: the end of a stop caused by SOFT_RESET changes no group record. -/
theorem finishRelease_softReset (hg : e.group = some g) (hc : e.cause = some .softReset) :
    (s.setEngine e).finishRelease .stopped = released s g := by
  have hc : (s.setEngine e).closeRelease g .stopped = s.setEngine e := by simp [State.closeRelease, hc]
  rw [finishRelease_eq (s := s.setEngine e) hg, hc]
  rfl

/-! ## The end of the walk (R84, R88) -/

theorem nextEntry_of_walkedToEnd (hg : s.engine.group = some g) (h : WalkedToEnd s g) : s.nextEntry = none := by
  obtain ⟨h1, h2⟩ := nextEntry_of_group hg
  rcases h with ⟨hk, he⟩ | ⟨hk, he⟩
  · rw [h1 hk, he]
    rfl
  · rw [h2 hk]
    exact List.getElem?_eq_none he

theorem exec_releaseCompletion (h : TakesEvents s) :
    exec .releaseCompletion s = .next (if s.isWalked then (s.endRelease .complete).grantAll else s) :=
  congrArg _ (State.whenRunning_taken h)

/-- R88: RELEASE_COMPLETION of a list that has been walked to its end. -/
theorem exec_releaseCompletion_walked (h : TakesEvents s) (hs : s.engine.state = .draining) (hw : s.engine.write = .none)
    (hg : s.engine.group = some g) (he : WalkedToEnd s g) :
    exec .releaseCompletion s = .next (s.endRelease .complete).grantAll := by
  rw [exec_releaseCompletion h, if_pos ((isWalked_iff s).mpr ⟨hs, hw, nextEntry_of_walkedToEnd hg he⟩)]

/-! ## A completion that fires nothing (R27) -/

theorem completeGroup_of_firesNothing (h : FiresNothing s g) (written failed : Nat) :
    s.completeGroup g written failed = s.settledBy g written failed := by
  have hf : (s.settledBy g written failed).firedByCompletion g = [] := by
    refine List.eq_nil_iff_forall_not_mem.mpr fun k hk => ?_
    rcases (mem_firedByCompletion (h.1 g) k).mp hk with ⟨-, hk⟩ | ⟨-, hr, hk⟩
    · exact h.1 k hk
    · exact h.2.elim (by omega) fun hn => hn hk
  rw [completeGroup_eq, hf]
  rfl

theorem released_of_firesNothing (h : FiresNothing s g) (written failed : Nat) :
    released (s.completeGroup g written failed) g = releaseCompleted s g written failed := by
  rw [completeGroup_of_firesNothing h, settledBy_eq]
  rfl

theorem firesNothing_headTaken (h : FiresNothing s g) (rest : List GroupId) : FiresNothing (headTaken s g rest) g := by
  have hg : (headTaken s g rest).group g = { s.group g with state := .releasing } := State.group_setGroup_self ..
  refine ⟨fun k => ?_, by rw [hg]; exact h.2⟩
  by_cases hk : k = g
  · rw [hk, hg]
    exact h.1 g
  · have he : (headTaken s g rest).group k = s.group k := State.group_setGroup_ne _ hk _
    rw [he]
    exact h.1 k

/-! ## The end of a release write (R85 to R87, R91, R100, R101) -/

theorem isStuck_iff (p : MemoryPort) : p.isStuck = true ↔ ∀ t : TagId, p.tags[t] = .abandoned := by
  have ha (x : TagState) : x.isAbandoned = true ↔ x = .abandoned := by cases x <;> simp [TagState.isAbandoned]
  have hl : allTags.countP (fun t => p.tags[t].isAbandoned) = allTags.length ↔ ∀ t ∈ allTags, p.tags[t].isAbandoned = true :=
    List.countP_eq_length
  rw [MemoryPort.isStuck, beq_iff_eq, MemoryPort.abandonedCount]
  refine hl.trans (forall_congr' fun t => ?_)
  rw [ha]
  exact forall_prop_of_true (by revert t; decide)

theorem noteStuck_withTag (s : State) (tag : TagId) : (s.setTag tag .abandoned).noteStuck = timedOut s tag := by
  unfold State.noteStuck
  rw [offerPlain_eq]
  exact if_congr (isStuck_iff _) rfl rfl

/-- R100, R101: the end of a release write, whose outcome the engine takes in `pre`. -/
structure WriteEnds (s : State) (c : Instr) (answer : Answer) (pre : State) (post : State → State) : Prop where
  ends : exec c s = .next (post (pre.writeEnded answer)).grantAll
  frees : FreesAtMost post
  takes : TakesEvents pre
  engine : pre.engine = s.engine
  groups : pre.groups = s.groups
  free : pre.free = s.free

theorem WriteEnds.group (h : WriteEnds s c answer pre post) (g : GroupId) : pre.group g = s.group g := by
  unfold State.group
  rw [h.groups]

theorem writeEnds_of_endsRequestIn (h : TakesEvents s) (he : EndsRequestIn s c tag answer data pre post)
    (ht : s.tag tag = .busy (.release w) n m) : WriteEnds s c answer pre post := by
  rcases he with ⟨rfl, rfl, rfl⟩ | ⟨rfl, rfl, rfl, rfl⟩
  · refine ⟨?_, .inr ⟨tag, rfl⟩, h, rfl, rfl, rfl⟩
    refine (congrArg _ (State.whenRunning_taken h)).trans (congrArg _ ?_)
    unfold State.takeResponse
    rw [ht]
    rfl
  · have hs : s.timeOut tag = ((timedOut s tag).writeEnded .error).grantAll := by
      unfold State.timeOut
      rw [ht, ← noteStuck_withTag]
      rfl
    have kept : (timedOut s tag).inReset = s.inReset ∧ (timedOut s tag).clkRuns = s.clkRuns ∧
        (timedOut s tag).engine = s.engine ∧ (timedOut s tag).groups = s.groups ∧ (timedOut s tag).free = s.free := by
      unfold timedOut
      dsimp only
      split <;> exact ⟨rfl, rfl, rfl, rfl, rfl⟩
    obtain ⟨h1, h2, h3, h4, h5⟩ := kept
    refine ⟨?_, .inl rfl, ⟨h1.trans h.1, h2.trans h.2⟩, h3, h4, h5⟩
    exact (congrArg _ (State.whenRunning_taken h)).trans (congrArg _ hs)

/-- R85, R86, R91: the release context once the outcome of its write has been counted and the write is gone. -/
def Engine.writeCounted (e : Engine) (answer : Answer) : Engine :=
  { e with
    written := if answer = .okay then e.written + 1 else e.written
    failed := if answer = .okay then e.failed else e.failed + 1
    write := .none
    copy := none }

theorem countWrite_eq (s : State) (answer : Answer) : s.countWrite answer = s.setEngine { s.engine with
    written := if answer = .okay then s.engine.written + 1 else s.engine.written
    failed := if answer = .okay then s.engine.failed else s.engine.failed + 1 } := by
  cases answer <;> rfl

theorem freeHead_setEngine (s : State) (e : Engine) (g : GroupId) :
    (s.setEngine e).freeHead g = (s.freeHead g).setEngine e := by
  unfold State.freeHead
  rw [State.setEngine_group]
  split <;> rfl

/-- R87: a write that fails under ABORT ends the release as a fault. -/
theorem writeEnded_abort (hs : s.engine.state = .draining) (hg : s.engine.group = some g)
    (ha : (s.group g).config.errorPolicy = .abort) : s.writeEnded .error =
      (s.setEngine { s.engine with failed := 1, write := .none, copy := none }).endRelease .fault := by
  unfold State.writeEnded
  rw [hs, hg]
  dsimp only
  unfold State.writeEndedDraining
  rw [ha]
  rfl

/-- R85, R86: the last write of a list completes the release, its entry passed. -/
theorem writeEnded_last (hs : s.engine.state = .draining) (hg : s.engine.group = some g)
    (ha : answer = .okay ∨ (s.group g).config.errorPolicy = .carryOn)
    (hv : ((s.countWrite answer).passEntry g).dropWrite = v) (hn : v.nextEntry = none) :
    s.writeEnded answer = v.endRelease .complete := by
  have hd : s.writeEnded answer =
      (((s.countWrite answer).passEntry g).dropWrite).walkOn fun s => s.endRelease .complete := by
    unfold State.writeEnded
    rw [hs, hg]
    dsimp only
    unfold State.writeEndedDraining
    rcases ha with rfl | ha
    · rfl
    · rw [ha]
      cases answer <;> rfl
  rw [hd, hv]
  unfold State.walkOn
  rw [hn]

/-- R91: the end of the write of a stopped release ends the stop. After a discard its entry may be freed first. -/
theorem writeEnded_stopping (hs : s.engine.state = .stopping) (hg : s.engine.group = some g) (answer : Answer) :
    ∃ v, (v = s ∨ s.engine.cause = some .discard ∧ v = s.freeHead g) ∧
      s.writeEnded answer = (v.setEngine (s.engine.writeCounted answer)).endRelease .stopped := by
  have hd : s.writeEnded answer = (((s.countWrite answer).freeStopped g answer).dropWrite).endRelease .stopped := by
    unfold State.writeEnded
    rw [hs, hg]
    rfl
  have hc : (s.countWrite answer).engine.cause = s.engine.cause := by rw [countWrite_eq]; rfl
  have freed : (s.countWrite answer).freeStopped g answer = s.countWrite answer ∨
      s.engine.cause = some .discard ∧ (s.countWrite answer).freeStopped g answer = (s.countWrite answer).freeHead g := by
    unfold State.freeStopped
    split
    case h_1 => exact .inr ⟨hc.symm.trans (by assumption), rfl⟩
    case h_2 => exact .inr ⟨hc.symm.trans (by assumption), rfl⟩
    case h_3 => exact .inl rfl
  rcases freed with e | ⟨hd', e⟩
  · refine ⟨s, .inl rfl, ?_⟩
    rw [hd, e, countWrite_eq]
    rfl
  · refine ⟨s.freeHead g, .inr ⟨hd', rfl⟩, ?_⟩
    rw [hd, e, countWrite_eq, freeHead_setEngine]
    rfl

/-! ## A completion (R27, R88, R89) -/

theorem freeHead_of_single {e0 : Entry} (h : (s.group g).entries = [e0]) :
    s.freeHead g = { s.setGroup g { s.group g with entries := [] } with free := s.free + 1 } := by
  unfold State.freeHead
  rw [h]
  rfl

theorem passEntry_oneShot (h : s.engine.kind = some .oneShot) : s.passEntry g = s.freeHead g := by
  unfold State.passEntry
  rw [h]

theorem passEntry_repeating (h : s.engine.kind = some .repeating) :
    s.passEntry g = s.setEngine { s.engine with cursor := s.engine.cursor + 1 } := by
  unfold State.passEntry
  rw [h]

/-- R42, R43, R85: the part once the outcome of the last write of a list has been counted and its entry passed. -/
theorem passed_last (hw : WriteEnds s c answer pre post) (hg : s.engine.group = some g) {walked : State}
    (h : (∃ e0, s.engine.kind = some .oneShot ∧ (s.group g).entries = [e0] ∧
        walked = { pre.setGroup g { s.group g with entries := [] } with free := s.free + 1 }) ∨
      (s.engine.kind = some .repeating ∧ (s.group g).entries.length ≤ s.engine.cursor + 1 ∧ walked = pre)) :
    ∃ cursor, ((pre.countWrite answer).passEntry g).dropWrite =
        walked.setEngine { s.engine.writeCounted answer with cursor := cursor } ∧
      (walked.setEngine { s.engine.writeCounted answer with cursor := cursor }).nextEntry = none := by
  rw [countWrite_eq, hw.engine]
  rcases h with ⟨e0, hk, he, rfl⟩ | ⟨hk, he, rfl⟩
  · refine ⟨s.engine.cursor, ?_, nextEntry_of_walkedToEnd (g := g) hg (.inl ⟨hk, ?_⟩)⟩
    · rw [passEntry_oneShot (by exact hk), freeHead_setEngine, freeHead_of_single (by rw [hw.group]; exact he), hw.group,
        hw.free]
      rfl
    · exact congrArg GroupRecord.entries (State.group_setGroup_self pre g { s.group g with entries := [] })
  · refine ⟨s.engine.cursor + 1, ?_, nextEntry_of_walkedToEnd (g := g) hg (.inr ⟨hk, ?_⟩)⟩
    · rw [passEntry_repeating (by exact hk)]
      rfl
    · have hl : ((walked.setEngine { s.engine.writeCounted answer with cursor := s.engine.cursor + 1 }).group g).entries =
          (s.group g).entries := congrArg GroupRecord.entries (hw.group g)
      rw [hl]
      exact he

/-- Settles O41: by event, by taking and by the last write. -/
theorem releaseCompletes : Obligations.ReleaseCompletes := by
  unfold Obligations.ReleaseCompletes
  refine ⟨fun s g h hs hw hg he hf hq hp => ?_, fun s g rest h hi hq h0 he hf hp => ?_, fun s h hn => ?_,
    fun s g h hs hw hg he => ?_, fun s g rest h hi hq h0 he => ?_,
    fun s c t answer data pre post g w n m walked h hends ht hs hg ha hwalk => ?_⟩
  · have hr : s.finishRelease .complete = releaseCompleted s g s.engine.written s.engine.failed :=
      (finishRelease_complete (s := s) hg).trans (released_of_firesNothing hf ..)
    rw [exec_releaseCompletion_walked h hs hw hg he, endRelease_alone hr hq]
    exact congrArg _ (grantAll_idle rfl (by exact hp))
  · rw [exec_taking h, takeNext_of_queue hi hq, takeHead_of_end hi hq h0 he,
      released_of_firesNothing (firesNothing_headTaken hf rest)]
    exact congrArg _ (grantAll_idle rfl (by exact hp))
  · rw [exec_releaseCompletion h, if_neg]
    rw [isWalked_iff]
    rintro ⟨h1, h2, h3⟩
    exact hn.elim (fun hn => hn h1) fun hn => hn.elim (fun hn => hn h2) fun hn => hn h3
  · exact ⟨_, exec_releaseCompletion_walked h hs hw hg he, goesOn_endRelease (.inl rfl) (finishRelease_complete (s := s) hg)
      (takesEvents_released h (sparesSide_completeGroup ..))⟩
  · refine ⟨_, exec_taking h, ?_⟩
    rw [takeNext_of_queue hi hq, takeHead_of_end hi hq h0 he]
    exact granted_grantAll (takesEvents_released (s := headTaken s g rest) h (sparesSide_completeGroup ..))
  · have hw := writeEnds_of_endsRequestIn h hends ht
    obtain ⟨cursor, hv, hn⟩ := passed_last hw hg hwalk
    have hl : pre.writeEnded answer =
        (walked.setEngine { s.engine.writeCounted answer with cursor := cursor }).endRelease .complete :=
      writeEnded_last (by rw [hw.engine]; exact hs) (by rw [hw.engine]; exact hg) (by rw [hw.group]; exact ha) hv hn
    have htakes : TakesEvents walked := by
      rcases hwalk with ⟨-, -, -, rfl⟩ | ⟨-, -, rfl⟩ <;> exact hw.takes
    have hf : (walked.setEngine { s.engine.writeCounted answer with cursor := cursor }).finishRelease .complete =
        released (walked.completeGroup g (if answer = .okay then s.engine.written + 1 else s.engine.written)
          (if answer = .okay then s.engine.failed else s.engine.failed + 1)) g := finishRelease_complete hg
    refine ⟨_, hw.ends, ?_⟩
    rw [hl]
    exact goesOn_endRelease hw.frees hf (takesEvents_released htakes (sparesSide_completeGroup ..))

end Sys2Proof.Machine
end

section
/-!
Faults and stops (R28, R29, R87, R90 to R92).
-/
namespace Sys2Proof.Machine

open Safety

variable {s t u v pre : State} {f : Frame} {g k : GroupId} {tag : TagId} {e : Engine} {answer : Answer} {c : Instr}
  {post : State → State} {x : TagState}

/-! ## GROUP_DISCARD of the group in hand (R21, R90) -/

theorem discard_of_inHand (hs : (s.group g).state = .releasing) (hg : s.engine.group = some g) :
    s.discard g = s.stopByDiscard := by
  unfold State.discard
  rw [hs]
  exact if_pos hg

/-- R90: the release context while a stop ends in the event of its discard. -/
def Engine.stoppedAtOnce (e : Engine) : Engine :=
  { e with state := .stopping, write := .none, copy := none, cause := some .discard }

theorem stopByDiscard_atOnce (h : s.engine.state = .settling ∨ s.engine.state = .draining ∧ s.engine.write ≠ .issued) :
    s.stopByDiscard = ((s.setEngine s.engine.stoppedAtOnce).endRelease .stopped).grantAll := by
  unfold State.stopByDiscard
  rcases h with hs | ⟨hs, hw⟩
  · rw [hs]
    rfl
  · rw [hs]
    cases he : s.engine.write with
    | issued => exact absurd he hw
    | requested => rfl
    | none => rfl

theorem finishRelease_stoppedAtOnce (hg : s.engine.group = some g) :
    (s.setEngine s.engine.stoppedAtOnce).finishRelease .stopped =
      released (s.discardGroup g s.engine.written s.engine.failed) g :=
  finishRelease_discard (e := s.engine.stoppedAtOnce) hg rfl

/-- R9: the record that a stop leaves is not ARMED, so that with no successor nothing is broken. -/
theorem discardGroup_alone (h : NoSuccessor s g) (written failed : Nat) :
    s.discardGroup g written failed = discardRecorded s g written failed := by
  rw [discardGroup_eq]
  exact breakSuccessors_of_noSuccessor (noSuccessor_setGroup h (by simp))

theorem faultGroup_alone (h : NoSuccessor s g) (written : Nat) : s.faultGroup g written 1 = faultRecorded s g written := by
  rw [faultGroup_eq]
  exact breakSuccessors_of_noSuccessor (noSuccessor_setGroup h (by simp))

theorem broke_discardGroup (s : State) (g : GroupId) (written failed : Nat) :
    Broke (discardRecorded s g written failed) g (s.discardGroup g written failed) := by
  rw [discardGroup_eq]
  exact broke_breakSuccessors ..

theorem broke_faultGroup (s : State) (g : GroupId) (written : Nat) :
    Broke (faultRecorded s g written) g (s.faultGroup g written 1) := by
  rw [faultGroup_eq]
  exact broke_breakSuccessors ..

/-- Settles O25, by the state of the engine and of its write. -/
theorem groupDiscardStopsTheRelease : Obligations.GroupDiscardStopsTheRelease := by
  unfold Obligations.GroupDiscardStopsTheRelease
  intro s f g h hl hi hs hg
  rw [exec_groupDiscard h hl hi, discard_of_inHand hs hg]
  refine ⟨fun hd hw => ?_, fun hd => ?_, fun ha => ?_, fun ha hn hq hp => ?_⟩
  · unfold State.stopByDiscard
    rw [hd, hw]
    rfl
  · unfold State.stopByDiscard
    rw [hd]
  · refine ⟨_, _, broke_discardGroup .., goesOn_endRelease (.inl rfl) (finishRelease_stoppedAtOnce hg)
      (takesEvents_released h.1 (sparesSide_discardGroup ..)), ?_⟩
    rw [stopByDiscard_atOnce ha]
    rfl
  · have hf := finishRelease_stoppedAtOnce hg
    rw [discardGroup_alone hn] at hf
    rw [stopByDiscard_atOnce ha, endRelease_alone hf hq, grantAll_idle rfl (by exact hp)]
    rfl

/-! ## The end of the write of a stopped release (R91) -/

/-- R91: whether the entry of the outstanding write is freed on its own makes no difference to the end of a discard. -/
theorem discardGroup_freeHead (s : State) (g : GroupId) (written failed : Nat) :
    (s.freeHead g).discardGroup g written failed = s.discardGroup g written failed := by
  have hr : discardRecorded (s.freeHead g) g written failed = discardRecorded s g written failed := by
    unfold State.freeHead
    cases he : (s.group g).entries with
    | nil => rfl
    | cons e0 es =>
      have hg := State.group_setGroup_self (s.setFree (s.free + 1)) g { s.group g with entries := es }
      have hn : s.free + 1 + es.length = s.free + (e0 :: es).length := by
        simp only [List.length_cons]
        omega
      have hc := setGroup_setGroup (s.setFree (s.free + 1)) g { s.group g with entries := es }
      simp only [State.modifyGroup, State.setFree_group, discardRecorded, hg, hc, hn, State.setGroup_free,
        State.setFree_free, he]
      rfl
  rw [discardGroup_eq, discardGroup_eq, hr]

theorem discardGroup_freed (hv : v = s ∨ v = s.freeHead g) (written failed : Nat) :
    v.discardGroup g written failed = s.discardGroup g written failed := by
  rcases hv with rfl | rfl
  · rfl
  · exact discardGroup_freeHead ..

theorem WriteEnds.fault (h : WriteEnds s c .error pre post) (hs : s.engine.state = .draining) (hg : s.engine.group = some g)
    (ha : (s.group g).config.errorPolicy = .abort) : ∃ e : Engine,
      pre.writeEnded .error = (pre.setEngine e).endRelease .fault ∧
      (pre.setEngine e).finishRelease .fault = released (pre.faultGroup g s.engine.written 1) g := by
  have hw := writeEnded_abort (s := pre) (g := g) (by rw [h.engine]; exact hs) (by rw [h.engine]; exact hg)
    (by rw [h.group]; exact ha)
  rw [h.engine] at hw
  exact ⟨_, hw, finishRelease_fault hg rfl⟩

theorem WriteEnds.discard (h : WriteEnds s c answer pre post) (hs : s.engine.state = .stopping)
    (hg : s.engine.group = some g) (hc : s.engine.cause = some .discard) : ∃ r : State,
      pre.writeEnded answer = r.endRelease .stopped ∧
      r.finishRelease .stopped = released (pre.discardGroup g
        (if answer = .okay then s.engine.written + 1 else s.engine.written)
        (if answer = .okay then s.engine.failed else s.engine.failed + 1)) g := by
  obtain ⟨v, hv, hw⟩ := writeEnded_stopping (s := pre) (g := g) (by rw [h.engine]; exact hs) (by rw [h.engine]; exact hg)
    answer
  rw [h.engine] at hw
  refine ⟨_, hw, ?_⟩
  rw [finishRelease_discard (e := s.engine.writeCounted answer) hg hc, discardGroup_freed (hv.imp_right And.right)]
  rfl

theorem WriteEnds.softReset (h : WriteEnds s c answer pre post) (hs : s.engine.state = .stopping)
    (hg : s.engine.group = some g) (hc : s.engine.cause = some .softReset) : ∃ r : State,
      pre.writeEnded answer = r.endRelease .stopped ∧ r.finishRelease .stopped = released pre g := by
  obtain ⟨v, hv, hw⟩ := writeEnded_stopping (s := pre) (g := g) (by rw [h.engine]; exact hs) (by rw [h.engine]; exact hg)
    answer
  have hv : v = pre := hv.resolve_right fun hv => by
    rw [h.engine, hc] at hv
    exact absurd hv.1 (by simp)
  subst hv
  rw [h.engine] at hw
  exact ⟨_, hw, finishRelease_softReset hg hc⟩

/-- R89: an event that ends a release write and with it the release goes on. -/
theorem WriteEnds.goesOn (h : WriteEnds s c answer pre post) {r : State} {o : ReleaseOutcome}
    (hr : pre.writeEnded answer = r.endRelease o) (hf : r.finishRelease o = u) (hu : TakesEvents u) :
    ∃ v, exec c s = .next v ∧ GoesOn u post v := by
  refine ⟨_, h.ends, ?_⟩
  rw [hr]
  exact goesOn_endRelease h.frees hf hu

/-- R95: the end of a request that leaves the port not STUCK changes the state of its tag and no more. -/
theorem writeEnds_of_endsRequest {w : Entry} {n m : Nat} (h : TakesEvents s) (he : EndsRequest c tag answer x)
    (ht : s.tag tag = .busy (.release w) n m) (hu : ∃ u, u ≠ tag ∧ s.tag u ≠ .abandoned) :
    ∃ pre post, WriteEnds s c answer pre post ∧
      (pre = s ∧ post = (fun u => withTag u tag x) ∨ pre = withTag s tag x ∧ post = id) := by
  rcases he with ⟨⟨data, rfl⟩, rfl⟩ | ⟨rfl, rfl, rfl⟩
  · exact ⟨s, _, writeEnds_of_endsRequestIn h (.inl ⟨rfl, rfl, rfl⟩) ht, .inl ⟨rfl, rfl⟩⟩
  · have hn : timedOut s tag = withTag s tag .abandoned := by
      refine if_neg fun ha => ?_
      obtain ⟨u, hne, hu⟩ := hu
      have hs : (withTag s tag .abandoned).tag u = s.tag u := by
        have hv : (tag : Nat) ≠ u := fun e => hne (Fin.ext e.symm)
        simp [State.tag, hv]
      exact hu (hs.symm.trans (ha u))
    exact ⟨_, id, writeEnds_of_endsRequestIn (data := 0) h (.inr ⟨rfl, rfl, rfl, rfl⟩) ht, .inr ⟨hn, rfl⟩⟩

/-- R89, R98: with an empty launch queue and no request waiting the end of the write is all that happens. -/
theorem WriteEnds.alone (h : WriteEnds s c answer pre post)
    (hx : pre = s ∧ post = (fun u => withTag u tag x) ∨ pre = withTag s tag x ∧ post = id) {r : State} {o : ReleaseOutcome}
    (hr : pre.writeEnded answer = r.endRelease o) (hf : r.finishRelease o = u) (he : u.engine = {})
    (hq : u.launchQueue = []) (hp : u.port.waiting = []) : exec c s = .next (post u) := by
  rw [h.ends, hr, endRelease_alone hf hq]
  refine congrArg _ ?_
  rcases hx with ⟨-, rfl⟩ | ⟨-, rfl⟩
  · exact grantAll_idle he hp
  · exact grantAll_idle he hp

/-- Settles O44: the fault, the end of a stop, and each in one line. -/
theorem faultsAndStopsEndTheRelease : Obligations.FaultsAndStopsEndTheRelease := by
  unfold Obligations.FaultsAndStopsEndTheRelease
  refine ⟨fun s c t data pre post g w n m h hends ht hs hg ha => ?_,
    fun s c t answer data pre post g w n m h hends ht hs hg => ?_,
    fun s c t x g w n m h hends ht hs hg _ ha hn hq hp hu => ?_,
    fun s c t x answer g w n m written failed h hends ht hs hg hq hp hu hwr hfa => ⟨fun hc hn => ?_, fun hc hf => ?_⟩⟩
  · have hw := writeEnds_of_endsRequestIn h hends ht
    obtain ⟨e, hr, hf⟩ := hw.fault hs hg ha
    obtain ⟨v, hv⟩ := hw.goesOn hr hf (takesEvents_released hw.takes (sparesSide_faultGroup ..))
    exact ⟨_, v, broke_faultGroup .., hv⟩
  · have hw := writeEnds_of_endsRequestIn h hends ht
    refine ⟨fun hc => ?_, fun hc => ?_⟩
    · obtain ⟨r, hr, hf⟩ := hw.discard hs hg hc
      obtain ⟨v, hv⟩ := hw.goesOn hr hf (takesEvents_released hw.takes (sparesSide_discardGroup ..))
      exact ⟨_, v, broke_discardGroup .., hv⟩
    · obtain ⟨r, hr, hf⟩ := hw.softReset hs hg hc
      exact hw.goesOn hr hf hw.takes
  · obtain ⟨pre, post, hw, hx⟩ := writeEnds_of_endsRequest h hends ht hu
    obtain ⟨e, hr, hf⟩ := hw.fault hs hg ha
    rw [faultGroup_alone (fun k => by rw [IsSuccessor, hw.group]; exact hn k)] at hf
    rcases hx with ⟨rfl, rfl⟩ | ⟨rfl, rfl⟩
    · exact hw.alone (.inl ⟨rfl, rfl⟩) hr hf rfl hq hp
    · exact hw.alone (.inr ⟨rfl, rfl⟩) hr hf rfl hq hp
  · obtain ⟨pre, post, hw, hx⟩ := writeEnds_of_endsRequest h hends ht hu
    obtain ⟨r, hr, hf⟩ := hw.discard hs hg hc
    rw [discardGroup_alone (fun k => by rw [IsSuccessor, hw.group]; exact hn k), ← hwr, ← hfa] at hf
    rcases hx with ⟨rfl, rfl⟩ | ⟨rfl, rfl⟩
    · exact hw.alone (.inl ⟨rfl, rfl⟩) hr hf rfl hq hp
    · exact hw.alone (.inr ⟨rfl, rfl⟩) hr hf rfl hq hp
  · obtain ⟨pre, post, hw, hx⟩ := writeEnds_of_endsRequest h hends ht hu
    obtain ⟨r, hr, hr'⟩ := hw.softReset hs hg hc
    have hl : released s g = { s with engine := {} } := by rw [released, if_neg hf]
    rcases hx with ⟨rfl, rfl⟩ | ⟨rfl, rfl⟩
    · rw [hw.alone (.inl ⟨rfl, rfl⟩) hr hr' rfl hq hp, hl]
    · rw [hw.alone (.inr ⟨rfl, rfl⟩) hr hr' rfl hq hp, released, if_neg (by exact hf)]
      rfl

end Sys2Proof.Machine
end

section
/-!
The commands that set the timebase and the memory port: TIMEBASE_CONFIG, TIMEBASE_LOAD and PORT_CONFIG (R103, R120, R122).
-/
namespace Sys2Proof.Machine

open Safety

variable {s t : State} {f : Frame} {tb : Timebase} {n : Nat}

/-! ## Commands that take no index (R166, R167) -/

section Frame

variable {code : Byte} {act : State → Reply} {result : List Byte} (h : LinkReady s)
  (hl : (frameLength code).getD 1 ≤ f.length)
include h hl

/-- R167: a command acts, and its result replaces the result buffer. -/
theorem next_takeFrame (ha : act (s.receive code f) = ⟨t.setLink (s.receive code f).link, result⟩) :
    (.next (s.takeFrame code f act) : Host.Outcome State Fault Refusal) = .next (afterFrame s t code f result) :=
  congrArg _ (State.takeFrame_reply h hl ha)

/-- R171: a command that is refused changes nothing. -/
theorem next_takeFrame_same (ha : act (s.receive code f) = ⟨s.receive code f, result⟩) :
    (.next (s.takeFrame code f act) : Host.Outcome State Fault Refusal) = .next (afterFrame s s code f result) :=
  next_takeFrame (t := s) h hl ha

end Frame

/-! ## TIMEBASE_CONFIG (R120, R186) -/

/-- R120, R186: a frame whose fields lie in their ranges carries the values, and the lock state that goes with the mode. -/
theorem timebaseOf_eq_some {m : TimebaseMode} (hm : m.code = f.byte 2) (hp : 16 ≤ (f.half 3).toNat)
    (hl : 2 ≤ (f.half 5).toNat) (hl' : (f.half 5).toNat ≤ 4096) (ht : (f.half 7).toNat ≤ 255) :
    timebaseOf f tb = some { tb with
      mode := m, linePeriod := (f.half 3).toNat, lines := (f.half 5).toNat, tolerance := (f.half 7).toNat
      lock := if m = .internal then .none else .search } := by
  unfold timebaseOf
  rw [← hm, timebaseModeOf_code]
  dsimp only
  rw [if_pos ⟨hp, hl, hl', ht⟩]
  cases m <;> rfl

/-- R186: a frame with a field out of range carries no values. -/
theorem timebaseOf_eq_none (h : 1 < (f.byte 2).toNat ∨ (f.half 3).toNat < 16 ∨ (f.half 5).toNat < 2 ∨
    4096 < (f.half 5).toNat ∨ 255 < (f.half 7).toNat) : timebaseOf f tb = none := by
  unfold timebaseOf
  rcases h with hm | hr
  · obtain ⟨-, -, -, -, -, -, hm⟩ := named_values_above_one (f.byte 2) hm
    rw [hm]
  · split
    · exact if_neg (by omega)
    · rfl

theorem timebaseConfigReply_of_some (h : timebaseOf f s.timebase = some tb) :
    timebaseConfigReply f s = ⟨s.setTimebase tb, [0x00]⟩ := by
  simp only [timebaseConfigReply, h]
  rfl

theorem timebaseConfigReply_of_none (h : timebaseOf f s.timebase = none) : timebaseConfigReply f s = ⟨s, [0x03]⟩ := by
  simp only [timebaseConfigReply, h]
  rfl

/-! ## PORT_CONFIG (R103) -/

theorem portConfigReply_of_ge (h : 256 ≤ n) :
    portConfigReply n s = ⟨s.setPort { s.port with timeout := n }, [0x00]⟩ := if_neg (Nat.not_lt.mpr h)

theorem portConfigReply_of_lt (h : n < 256) : portConfigReply n s = ⟨s, [0x03]⟩ := if_pos h

/-- Settles O28: each command by whether the values that its frame carries lie in their ranges. -/
theorem timebaseAndPortCommandsWriteTheirValues : Obligations.TimebaseAndPortCommandsWriteTheirValues := by
  unfold Obligations.TimebaseAndPortCommandsWriteTheirValues
  refine ⟨fun s f m h hf hm hp hl hl' ht => ?_, fun s f h hf hbad => ?_, fun s f h hf => ?_,
    fun s f h hf => ⟨fun hn => ?_, fun hn => ?_⟩⟩
  · exact next_takeFrame h (by exact hf) (timebaseConfigReply_of_some (timebaseOf_eq_some hm hp hl hl' ht))
  · exact next_takeFrame_same h (by exact hf) (timebaseConfigReply_of_none (timebaseOf_eq_none hbad))
  · exact next_takeFrame h (by exact hf) rfl
  · exact next_takeFrame h (by exact hf) (portConfigReply_of_ge hn)
  · exact next_takeFrame_same h (by exact hf) (portConfigReply_of_lt hn)

end Sys2Proof.Machine
end

section
/-!
One CLK period in which no command or event waits (R89, R99, R100, R109, R190), and that the part still takes events after each
timeout of that period.
-/
namespace Sys2Proof.Machine

open Safety

variable {s t : State} {g : GroupId}

/-! ## The part takes events after the end of a request (R163, R190) -/

theorem takesEvents_sparesSide (h : TakesEvents s) (k : SparesSide s t) : TakesEvents t :=
  ⟨k.inReset.trans h.1, k.clkRuns.trans h.2⟩

theorem takesEvents_faultGroup (h : TakesEvents s) (g : GroupId) (written failed : Nat) :
    TakesEvents (s.faultGroup g written failed) :=
  takesEvents_sparesSide (by exact h) (sparesSide_breakSuccessors _ g)

theorem takesEvents_closeRelease (h : TakesEvents s) (g : GroupId) (o : ReleaseOutcome) :
    TakesEvents (s.closeRelease g o) := by
  unfold State.closeRelease
  split
  · exact takesEvents_sparesSide h (sparesSide_completeGroup ..)
  · exact takesEvents_faultGroup h ..
  · exact h
  · exact takesEvents_sparesSide h (sparesSide_discardGroup ..)
  · exact takesEvents_sparesSide h (sparesSide_discardGroup ..)

theorem takesEvents_endRelease (h : TakesEvents s) (o : ReleaseOutcome) : TakesEvents (s.endRelease o) := by
  have hf : TakesEvents (s.finishRelease o) := by
    cases hg : s.engine.group with
    | none =>
      simp only [State.finishRelease, hg]
      exact h
    | some g =>
      rw [finishRelease_eq hg]
      exact takesEvents_closeRelease h g o
  exact takesEvents_takeHead (takesEvents_judgeBeforeTaking hf)

/-- R84: the walk goes on with a write, which changes the release context alone, or with its end. -/
theorem takesEvents_walkOn (h : TakesEvents s) {finish : State → State} (hf : TakesEvents (finish s)) :
    TakesEvents (s.walkOn finish) := by
  rcases walkOn_cases s finish with ⟨e, -, e'⟩ | ⟨-, e'⟩ <;> rw [e']
  · exact h
  · exact hf

theorem takesEvents_countWrite (h : TakesEvents s) (answer : Answer) : TakesEvents (s.countWrite answer) := by
  cases answer <;> exact h

theorem takesEvents_passEntry (h : TakesEvents s) (g : GroupId) : TakesEvents (s.passEntry g) := by
  unfold State.passEntry
  split
  · exact takesEvents_quiet h (quiet_freeHead ..)
  · exact h
  · exact h

theorem takesEvents_writeEnded (h : TakesEvents s) (answer : Answer) : TakesEvents (s.writeEnded answer) := by
  have hc := takesEvents_countWrite h answer
  rcases writeEnded_cases s answer with ⟨g, -, -, ⟨-, -, e⟩ | ⟨-, e⟩⟩ | ⟨g, -, -, e⟩ | ⟨-, e⟩ <;> rw [e]
  · exact takesEvents_endRelease (by exact h) _
  · have hp : TakesEvents ((s.countWrite answer).passEntry g).dropWrite := takesEvents_passEntry hc g
    exact takesEvents_walkOn hp (takesEvents_endRelease hp _)
  · have hs := takesEvents_quiet hc (quiet_freeStopped _ g answer)
    exact takesEvents_endRelease (by exact hs) _
  · exact h

theorem takesEvents_settleOn (h : TakesEvents s) : TakesEvents s.settleOn := by
  unfold State.settleOn
  split
  · exact takesEvents_walkOn (by exact h) (takesEvents_endRelease (by exact h) _)
  · exact h

theorem takesEvents_handBack (h : TakesEvents s) (r : PortRequest) (answer : Answer) (data : Word) :
    TakesEvents (s.handBack r answer data) := by
  cases r with
  | passThrough r => exact takesEvents_settleOn (takesEvents_quiet h (quiet_endPass ..))
  | release e => exact takesEvents_writeEnded h answer

theorem takesEvents_timeOut (h : TakesEvents s) (v : TagId) : TakesEvents (s.timeOut v) := by
  rcases timeOut_cases s v with ⟨-, e⟩ | ⟨r, n, m, -, e⟩ <;> rw [e]
  · exact h
  · have hs := takesEvents_quiet h ((quiet_setTag s v .abandoned).trans (quiet_noteStuck _))
    exact takesEvents_quiet (takesEvents_handBack hs ..) (quiet_grantAll _)

/-! ## The response timers of one CLK period (R99, R100) -/

theorem tag_timersAdvanced (s : State) (v : TagId) : (timersAdvanced s).tag v = (s.tag v).advance := by
  rw [← advanceTimers_eq]
  exact Vector.getElem_map ..

/-- R100: a timer two periods or more short of its timeout is not due after one. -/
theorem not_timerDue_timersAdvanced {v : TagId} (h : ∀ r n m, s.tag v = .busy r n m → n + 1 < m) :
    ¬ TimerDue (timersAdvanced s) v := by
  rintro ⟨r, n, m, hb, hle⟩
  rw [tag_timersAdvanced] at hb
  cases ht : s.tag v with
  | free => simp [ht, TagState.advance] at hb
  | abandoned => simp [ht, TagState.advance] at hb
  | busy r' n' m' =>
    simp only [ht, TagState.advance, TagState.busy.injEq] at hb
    obtain ⟨-, rfl, rfl⟩ := hb
    exact absurd (h r' n' m' ht) (Nat.not_lt.mpr hle)

theorem timeOutIfDue_of_not_due {v : TagId} (h : ¬ TimerDue s v) : s.timeOutIfDue v = s := by
  rcases timeOutIfDue_cases s v with ⟨hd, -⟩ | ⟨-, e⟩
  · exact absurd hd h
  · exact e

theorem takesEvents_timeOutIfDue (h : TakesEvents s) (v : TagId) : TakesEvents (s.timeOutIfDue v) := by
  rcases timeOutIfDue_cases s v with ⟨-, e⟩ | ⟨-, e⟩ <;> rw [e]
  · exact takesEvents_timeOut h v
  · exact h

/-- R100: what a tag's turn in a CLK period does is the event RESPONSE_TIMEOUT, when its timer is due. -/
theorem timeoutTaken_timeOutIfDue (h : TakesEvents s) (v : TagId) : TimeoutTaken s v (s.timeOutIfDue v) := by
  refine ⟨fun hd => ?_, timeOutIfDue_of_not_due⟩
  rcases timeOutIfDue_cases s v with ⟨-, e⟩ | ⟨hn, -⟩
  · rw [e]
    exact congrArg _ (State.whenRunning_taken h)
  · exact absurd hd hn

/-- R100: the tags before tag `i` have had their turn, in ascending tag number. -/
def State.timedOutBelow (s : State) (i : Fin 5) : State := (allTags.take i.val).foldl State.timeOutIfDue s

theorem timedOutBelow_succ (s : State) (v : TagId) :
    s.timedOutBelow v.succ = (s.timedOutBelow v.castSucc).timeOutIfDue v := by
  have ht : allTags.take v.succ.val = allTags.take v.castSucc.val ++ [v] := by decide +revert
  rw [State.timedOutBelow, ht, List.foldl_append]
  rfl

theorem takesEvents_timedOutBelow (h : TakesEvents s) (i : Fin 5) : TakesEvents (s.timedOutBelow i) :=
  List.foldlRecOn _ _ h fun _ ht v _ => takesEvents_timeOutIfDue ht v

/-! ## The line timer of one CLK period (R109, R121) -/

theorem exec_lineTimerExpiry (h : TakesEvents s) : exec .lineTimerExpiry s = .next s.expireLine :=
  congrArg _ (State.whenRunning_taken h)

/-- R109, R121: the end of a TBCLK period, whose expiry is the event LINE_TIMER_EXPIRY. -/
theorem tbclkPeriodTaken_tbclkPeriod (h : TakesEvents s) : TbclkPeriodTaken s s.tbclkPeriod := by
  refine ⟨_, rfl, fun hlt => ?_, fun hge => ?_⟩ <;> rcases tbclkPeriod_cases s with ⟨hc, e⟩ | ⟨hc, e⟩
  · exact e
  · exact absurd hlt (Nat.not_lt.mpr hc)
  · exact absurd hc (Nat.not_lt.mpr hge)
  · rw [e]
    exact exec_lineTimerExpiry (by exact h)

/-- R109, R190: whether a TBCLK period ends is asked as a free value, and then it ends or nothing more happens. -/
theorem tbclkMayAdvance_spec (h : TakesEvents s) :
    if Config.tbclkPeriodEnds s.freeIndex then TbclkPeriodTaken s.useFree s.tbclkMayAdvance
    else s.tbclkMayAdvance = s.useFree := by
  unfold State.tbclkMayAdvance
  split
  · exact tbclkPeriodTaken_tbclkPeriod h
  · rfl

/-! ## One CLK period (R89, R99, R100, R109, R190) -/

theorem clockPeriod_eq (s : State) :
    s.clockPeriod = ((timersAdvanced s.takeNext).timedOutBelow (Fin.last 4)).tbclkMayAdvance := by
  rw [← advanceTimers_eq]
  rfl

/-- R99, R109: a CLK period with nothing to take, no response timer and no line timer about to reach its limit. -/
theorem clockPeriod_of_quiet (hq : s.engine.state ≠ .idle ∨ s.launchQueue = [])
    (ht : ∀ v r n m, s.tag v = .busy r n m → n + 1 < m) (hl : s.timebase.timer + 1 < s.timebase.linePeriod) :
    s.clockPeriod = { timersAdvanced s with
      timebase := { s.timebase with
        timer := if Config.tbclkPeriodEnds s.freeIndex then s.timebase.timer + 1 else s.timebase.timer }
      freeIndex := s.freeIndex + 1 } := by
  have hn : (timersAdvanced s).timedOutBelow (Fin.last 4) = timersAdvanced s :=
    List.foldlRecOn _ _ (motive := (· = timersAdvanced s)) rfl fun u hu v _ =>
      hu.symm ▸ timeOutIfDue_of_not_due (not_timerDue_timersAdvanced (ht v))
  rw [clockPeriod_eq, takeNext_of_nothing hq, hn]
  unfold State.tbclkMayAdvance
  by_cases hb : Config.tbclkPeriodEnds s.freeIndex = true
  · rw [if_pos hb, if_pos hb]
    rcases tbclkPeriod_cases (timersAdvanced s).useFree with ⟨-, e⟩ | ⟨hge, -⟩
    · exact e
    · exact absurd hl (Nat.not_lt.mpr hge)
  · rw [if_neg hb, if_neg hb]
    rfl

theorem step_eq_idle (hp : s.pending = []) : step s = .next s.idle := by
  simp only [step, hp]

/-- R190: a step on an empty queue outside reset is one CLK period, or none while CLK stands still. -/
theorem step_of_empty (hp : s.pending = []) (hr : s.inReset = false) :
    step s = .next (if Config.clkRuns s.freeIndex then (s.useFree.setClk true).clockPeriod
      else { s with clkRuns := false, freeIndex := s.freeIndex + 1 }) := by
  rw [step_eq_idle hp]
  rcases idle_cases s with ⟨h | h, e⟩ | ⟨-, h, e⟩
  · simp [hr] at h
  · rw [e, h, if_neg (by simp)]
    rfl
  · rw [e, if_pos h]

/-- R180, R190: a step on an empty queue in reset. -/
theorem step_of_empty_inReset (hp : s.pending = []) (hr : s.inReset = true) :
    step s = .next { s with clkRuns := Config.clkRuns s.freeIndex, freeIndex := s.freeIndex + 1 } := by
  rw [step_eq_idle hp]
  rcases idle_cases s with ⟨-, e⟩ | ⟨h, -, -⟩
  · rw [e]
    rfl
  · simp [hr] at h

/-- Settles O2: the parts of a CLK period one after another, each with the event that it makes. -/
theorem emptyQueueIsOneClockPeriod : Obligations.EmptyQueueIsOneClockPeriod := by
  unfold Obligations.EmptyQueueIsOneClockPeriod
  refine ⟨fun s hp hr => step_of_empty_inReset hp hr, fun s hp hr hq ht hl => ?_, fun s hp hr => ?_⟩
  · rw [step_of_empty hp hr, clockPeriod_of_quiet (s := s.useFree.setClk true) hq ht hl]
    rfl
  · have hs : TakesEvents (s.useFree.setClk true) := ⟨hr, rfl⟩
    have ha : TakesEvents (timersAdvanced (s.useFree.setClk true).takeNext) := takesEvents_takeNext hs
    refine ⟨_, _, (timersAdvanced (s.useFree.setClk true).takeNext).timedOutBelow, exec_taking hs, rfl, fun v => ?_, ?_,
      step_of_empty hp hr⟩
    · rw [timedOutBelow_succ]
      exact timeoutTaken_timeOutIfDue (takesEvents_timedOutBelow ha _) v
    · rw [clockPeriod_eq]
      exact tbclkMayAdvance_spec (takesEvents_timedOutBelow ha 4)

end Sys2Proof.Machine
end

section
/-!
What a mark leaves as it is: the timebase, always (R124), and the whole part while no group holds a launch condition or a
deadline (R138).
-/
namespace Sys2Proof.Machine

open Safety

variable {s : State}

/-! ## The timebase under a mark -/

theorem timebase_markNotice (fires : GroupId → Bool) (s : State) (g : GroupId) :
    (State.markNotice fires s g).timebase = s.timebase := by
  unfold State.markNotice
  split
  · rw [firingNotice_eq]
    rfl
  · rcases expiryNotice_cases s g with ⟨-, e⟩ | ⟨-, -, e⟩ | ⟨-, -, e⟩ <;> rw [e]
    · rfl
    · rw [breakSuccessors_rest]
      rfl

theorem timebase_noticed (s : State) (m : Mark) (i : Fin 9) : (s.noticed m i).timebase = s.timebase := by
  have hl : (s.lowered m).timebase = s.timebase := by rw [(lowered_spec s m).2]
  exact List.foldlRecOn (motive := fun t => t.timebase = s.timebase) _ _ hl
    fun t ht g _ => (timebase_markNotice _ t g).trans ht

theorem timebase_grantOne (s : State) : s.grantOne.timebase = s.timebase := by
  rcases grantOne_cases s with e | ⟨_, _, _, -, -, -, e⟩ | ⟨_, _, -, -, -, -, e⟩ <;> rw [e] <;> rfl

theorem timebase_grantAll (s : State) : s.grantAll.timebase = s.timebase := by
  simp only [State.grantAll, timebase_grantOne]

theorem timebase_completeGroup (s : State) (g : GroupId) (written failed : Nat) :
    (s.completeGroup g written failed).timebase = s.timebase := by
  rw [completeGroup_eq, (fireGroups_spec (nodup_firedByCompletion ..) _).2, settledBy_eq]
  rfl

theorem timebase_takeHead (s : State) : s.takeHead.timebase = s.timebase := by
  rcases takeHead_cases s with ⟨-, e⟩ | ⟨g, rest, hi, hq, ⟨-, e⟩ | ⟨hs, -⟩⟩
  · rw [e]
  · rw [e]
    rfl
  · cases he : (s.group g).entries with
    | nil =>
      rw [takeHead_of_end hi hq hs he]
      exact timebase_completeGroup (headTaken s g rest) g 0 0
    | cons w es =>
      rw [takeHead_of_entry hi hq hs (e := w) (by rw [he]; rfl)]
      rfl

theorem timebase_takeIfAppended (s : State) (n : Nat) : (s.takeIfAppended n).timebase = s.timebase := by
  unfold State.takeIfAppended
  split
  · rcases takeNext_cases s with ⟨-, e⟩ | ⟨-, -, e⟩ <;> rw [e]
    rw [timebase_grantAll, timebase_takeHead]
  · rfl

/-- R124, R138: whatever a mark does, and whatever the engine takes after it, the timebase is as the mark found it. -/
theorem timebase_takeMark (s : State) (m : Mark) : (s.takeMark m).timebase = s.timebase :=
  (timebase_takeIfAppended ..).trans (timebase_noticed s m 8)

/-! ## A mark that no group waits for -/

/-- R138: no group holds a launch condition or a deadline. -/
abbrev NothingAwaited (s : State) : Prop :=
  ∀ g : GroupId, (s.group g).condition = none ∧ (s.group g).deadlineRemaining = none

theorem loweredRecord_of_noDeadline {r : GroupRecord} (h : r.deadlineRemaining = none) : loweredRecord r = r := by
  have hr : { r with deadlineRemaining := r.deadlineRemaining.map fun n => n - 1 } = r := by
    rw [h, Option.map_none, ← h]
  rw [loweredRecord, hr, ite_self]

theorem lowerOne_of_nothingAwaited (h : NothingAwaited s) (m : Mark) (fires : GroupId → Bool) (g : GroupId) :
    State.lowerOne m fires s g = s := by
  unfold State.lowerOne
  split
  · rw [State.modifyGroup_eq, lowerDeadline_eq, loweredRecord_of_noDeadline (h g).2, State.setGroup_group]
  · rfl

theorem markNotice_of_nothingAwaited (h : NothingAwaited s) (m : Mark) (g : GroupId) :
    State.markNotice (s.markFires m) s g = s := by
  have hf : s.markFires m g = false := by
    unfold State.markFires
    rw [(h g).1]
  have hn : ¬ Expires s g := fun he => absurd he.2 (by simp [(h g).2])
  unfold State.markNotice
  rw [hf, if_neg Bool.false_ne_true, expiryNotice_of_not_expired hn]

/-- R138: a mark that no group waits for changes nothing. -/
theorem takeMark_of_nothingAwaited (h : NothingAwaited s) (m : Mark) : s.takeMark m = s := by
  have hl : allGroups.foldl (State.lowerOne m (s.markFires m)) s = s :=
    List.foldl_fixed' (lowerOne_of_nothingAwaited h m _) _
  have hn : allGroups.foldl (State.markNotice (s.markFires m)) s = s :=
    List.foldl_fixed' (markNotice_of_nothingAwaited h m) _
  unfold State.takeMark
  dsimp only
  rw [hl, hn, takeIfAppended_same rfl]

/-! ## A new timebase, its record and its mark (R116, R117, R124) -/

theorem frameMark_eq (tb : Timebase) : tb.frameMark = frameMarked tb := by
  unfold Timebase.frameMark frameMarked
  cases tb.pendingLoad <;> rfl

/-- R116, R117: a record of the timebase is offered with the new counters, and then the frame mark is handed over. -/
theorem handMark_recorded (s : State) (tb : Timebase) (kind : RecordKind) :
    ((s.setTimebase tb).offerPlain kind none).handMark .frame =
      (withRecord { s with timebase := tb } (syncRecord tb kind)).takeMark ⟨.frame, tb.frame, tb.line⟩ := by
  rw [offerPlain_eq]
  rfl

end Sys2Proof.Machine
end

section
/-!
The event LINE_TIMER_EXPIRY: a generated frame mark, a line mark or neither (R109, R110, R111, R116).
-/
namespace Sys2Proof.Machine

open Safety

variable {s : State} {tb : Timebase}

/-- R109, R110, R116: the timebase after an expiry of the line timer. -/
def Timebase.expired (tb : Timebase) : Timebase :=
  if AtFrameLimit tb then { frameMarked tb with lock := if tb.lock = .locked then .flywheel else tb.lock }
  else if tb.line = 4095 then { tb with timer := 0 }
  else { tb with line := tb.line + 1, timer := 0 }

theorem Timebase.expired_spec (tb : Timebase) : Expired tb tb.expired :=
  ⟨fun hf => if_pos hf, fun hf hl => (if_neg hf).trans (if_pos hl), fun hf hl => (if_neg hf).trans (if_neg hl)⟩

/-- R109, R111: the line timer ends the frame at the frame limit of the lock state. -/
theorem expireLine_eq_ite (s : State) :
    s.expireLine = if AtFrameLimit s.timebase then s.generatedFrame else s.lineOrNothing := by
  unfold State.expireLine Timebase.frameLimit
  cases hl : s.timebase.lock <;> simp [AtFrameLimit, hl]

/-- R110, R116: in LOCKED a generated frame mark is a loss of sync. -/
theorem generatedFrame_of_locked (hl : s.timebase.lock = .locked)
    (ht : tb = { frameMarked s.timebase with lock := .flywheel }) :
    s.generatedFrame = (withRecord { s with timebase := tb } (syncRecord tb .syncLost)).takeMark ⟨.frame, tb.frame, 0⟩ := by
  unfold State.generatedFrame
  rw [hl]
  dsimp only
  rw [handMark_recorded, frameMark_eq, ht]

theorem generatedFrame_of_not_locked (hl : s.timebase.lock ≠ .locked) (ht : tb = frameMarked s.timebase) :
    s.generatedFrame = ({ s with timebase := tb } : State).takeMark ⟨.frame, tb.frame, 0⟩ := by
  unfold State.generatedFrame
  split
  · next h => exact absurd h hl
  · rw [frameMark_eq, ht]
    rfl

/-- R109, R124: everything an expiry of the line timer does, with the mark that it hands over. -/
theorem expireLine_eq (h : Expired s.timebase tb) : s.expireLine =
    if AtFrameLimit s.timebase then
      (if s.timebase.lock = .locked then withRecord { s with timebase := tb } (syncRecord tb .syncLost)
        else { s with timebase := tb }).takeMark ⟨.frame, tb.frame, 0⟩
    else if s.timebase.line = 4095 then { s with timebase := tb }
    else ({ s with timebase := tb } : State).takeMark ⟨.line, tb.frame, tb.line⟩ := by
  obtain ⟨hframe, htop, hline⟩ := h
  rw [expireLine_eq_ite]
  refine if_ctx_congr Iff.rfl (fun hf => ?_) fun hf => ?_
  · have ht := hframe hf
    split
    · next hl => exact generatedFrame_of_locked hl (by rw [ht, if_pos hl])
    · next hl => exact generatedFrame_of_not_locked hl (by rw [ht, if_neg hl])
  · unfold State.lineOrNothing
    refine if_ctx_congr Iff.rfl (fun h4095 => ?_) fun h4095 => ?_
    · rw [htop hf h4095]
      rfl
    · rw [hline hf h4095]
      rfl

/-- R109: whether or not a mark is handed over, the timebase is that of the expiry. -/
theorem timebase_expireLine (s : State) : s.expireLine.timebase = s.timebase.expired := by
  rw [expireLine_eq s.timebase.expired_spec]
  split_ifs
  · exact timebase_takeMark ..
  · exact timebase_takeMark ..
  · rfl
  · exact timebase_takeMark ..

theorem expireLine_of_nothingAwaited (h : Expired s.timebase tb) (hn : NothingAwaited s) : s.expireLine =
    if s.timebase.lock = .locked ∧ AtFrameLimit s.timebase then
      withRecord { s with timebase := tb } (syncRecord tb .syncLost)
    else { s with timebase := tb } := by
  rw [expireLine_eq h]
  by_cases hf : AtFrameLimit s.timebase
  · rw [if_pos hf]
    by_cases hl : s.timebase.lock = .locked
    · rw [if_pos hl, if_pos ⟨hl, hf⟩]
      exact takeMark_of_nothingAwaited (by exact hn) _
    · rw [if_neg hl, if_neg fun h => hl h.1]
      exact takeMark_of_nothingAwaited (by exact hn) _
  · have hs : ¬ (s.timebase.lock = .locked ∧ AtFrameLimit s.timebase) := fun h => hf h.2
    rw [if_neg hf, if_neg hs]
    by_cases hl : s.timebase.line = 4095
    · rw [if_pos hl]
    · rw [if_neg hl]
      exact takeMark_of_nothingAwaited (by exact hn) _

/-- Settles O45: the mark that the expiry makes, by the frame limit and the line counter. -/
theorem lineTimerMakesTheMarks : Obligations.LineTimerMakesTheMarks := by
  unfold Obligations.LineTimerMakesTheMarks
  refine ⟨fun s hs => ?_, fun s tb hs h => ?_, fun s tb hs h hn => ?_⟩
  · exact ⟨_, exec_lineTimerExpiry hs, (timebase_expireLine s).symm ▸ s.timebase.expired_spec⟩
  · rw [exec_lineTimerExpiry hs, expireLine_eq h]
  · rw [exec_lineTimerExpiry hs, expireLine_of_nothingAwaited h hn]

end Sys2Proof.Machine
end

section
/-!
The event FSYNC_EDGE: whether a rise is seen as an edge (R113, R190), and the frame that an edge makes (R112, R114, R115, R117).
-/
namespace Sys2Proof.Machine

open Safety

variable {s : State} {missed : Bool} {low high : Nat}

/-! ## Edges as they are sampled (R113, R135, R190) -/

theorem edgeIsCertain_iff : edgeIsCertain missed low high = true ↔ EdgeCertain missed low high := by
  unfold edgeIsCertain EdgeCertain
  split
  · next h => simp [h, Nat.not_lt.mpr h]
  · next h => simp [h, Nat.lt_of_not_le h]

theorem sampleEdge_of_certain (h : EdgeCertain missed low high) (note : State → Bool → State) (edge : State → State) :
    s.sampleEdge missed low high note edge = edge (note s false) := if_pos (edgeIsCertain_iff.mpr h)

/-- R190: a rise that is not certain to be seen is an edge, or is noted as missed after a low level long enough. -/
theorem sampleEdge_of_not_certain (h : ¬ EdgeCertain missed low high) (note : State → Bool → State)
    (edge : State → State) :
    s.sampleEdge missed low high note edge = note s.useFree (decide (2 ≤ low)) ∨
      s.sampleEdge missed low high note edge = edge (note s.useFree false) := by
  unfold State.sampleEdge
  rw [if_neg (mt edgeIsCertain_iff.mp h)]
  split
  · exact .inr rfl
  · exact .inl rfl

/-! ## The frames of FSYNC (R112, R114, R115, R117) -/

theorem exec_fsyncEdge (h : TakesEvents s) : exec (.fsyncEdge low high) s =
    .next (s.sampleEdge s.missedEdges.fsync low high State.noteFsync State.takeFsync) :=
  congrArg _ (State.whenRunning_taken h)

theorem exec_fsyncEdge_of_certain (h : TakesEvents s) (hc : EdgeCertain s.missedEdges.fsync low high) :
    exec (.fsyncEdge low high) s = .next (fsyncNoted s false).takeFsync := by
  rw [exec_fsyncEdge h, sampleEdge_of_certain hc]
  rfl

/-- R112: in INTERNAL mode an edge of FSYNC is ignored. -/
theorem takeFsync_of_internal (hm : s.timebase.mode = .internal) : s.takeFsync = s := by
  unfold State.takeFsync
  rw [hm]

/-- R114, R115, R117: in EXTERNAL mode an edge of FSYNC makes a frame mark and locks, and in FLYWHEEL it regains sync. -/
theorem takeFsync_of_external {tb : Timebase} (hm : s.timebase.mode = .external) (hl : s.timebase.lock ≠ .none)
    (ht : tb = { frameMarked s.timebase with lock := .locked }) : s.takeFsync =
      (if s.timebase.lock = .flywheel then withRecord { s with timebase := tb } (syncRecord tb .syncRegained)
        else { s with timebase := tb }).takeMark ⟨.frame, tb.frame, 0⟩ := by
  unfold State.takeFsync
  rw [hm]
  cases hk : s.timebase.lock with
  | none => exact absurd hk hl
  | search =>
    rw [frameMark_eq, ht]
    rfl
  | locked =>
    have hf : frameMarked s.timebase = { frameMarked s.timebase with lock := .locked } := by rw [← hk]
    rw [ht, if_neg (by simp), ← hf, ← frameMark_eq]
    rfl
  | flywheel =>
    dsimp only
    rw [handMark_recorded, frameMark_eq, ht, if_pos rfl]

theorem timebase_takeFsync {tb : Timebase} (hm : s.timebase.mode = .external) (hl : s.timebase.lock ≠ .none)
    (ht : tb = { frameMarked s.timebase with lock := .locked }) : s.takeFsync.timebase = tb := by
  rw [takeFsync_of_external hm hl ht, timebase_takeMark]
  split <;> rfl

theorem takeFsync_of_nothingAwaited {tb : Timebase} (hm : s.timebase.mode = .external) (hl : s.timebase.lock ≠ .none)
    (ht : tb = { frameMarked s.timebase with lock := .locked }) (hn : NothingAwaited s) : s.takeFsync =
      if s.timebase.lock = .flywheel then withRecord { s with timebase := tb } (syncRecord tb .syncRegained)
      else { s with timebase := tb } := by
  rw [takeFsync_of_external hm hl ht]
  split <;> exact takeMark_of_nothingAwaited (by exact hn) _

/-- Settles O46: an edge that is certain by the mode and the lock state, and any other pulse by the free value. -/
theorem fsyncMakesTheFrames : Obligations.FsyncMakesTheFrames := by
  unfold Obligations.FsyncMakesTheFrames
  refine ⟨fun s low high hs hm hc => ?_, fun s low high hs hm hl hc => ?_, ?_, ?_, fun s low high hs hc => ?_⟩
  · rw [exec_fsyncEdge_of_certain hs hc, takeFsync_of_internal (by exact hm)]
  · exact ⟨_, exec_fsyncEdge_of_certain hs hc, timebase_takeFsync hm hl rfl⟩
  · rintro s _ low high tb hs hm hl hc rfl ht
    rw [exec_fsyncEdge_of_certain hs hc]
    exact congrArg _ (takeFsync_of_external (by exact hm) (by exact hl) ht)
  · rintro s _ low high tb hs hm hl hc rfl ht hn
    rw [exec_fsyncEdge_of_certain hs hc]
    exact congrArg _ (takeFsync_of_nothingAwaited (by exact hm) (by exact hl) ht hn)
  · have hedge : exec (.fsyncEdge 2 2) { s with freeIndex := s.freeIndex + 1 } =
        .next (s.useFree.noteFsync false).takeFsync :=
      exec_fsyncEdge_of_certain hs (.inl ⟨le_rfl, le_rfl⟩)
    rw [exec_fsyncEdge hs, hedge]
    exact (sampleEdge_of_not_certain hc _ _).imp (congrArg _) (congrArg _)

end Sys2Proof.Machine
end

section
/-!
The resets of the whole part, and the commands and events that are ignored in reset and while CLK stands still (R168, R180, R190).
-/
namespace Sys2Proof.Machine

open Safety

variable {s : State} {c : Instr} {n : Nat}

/-! ## RST_N (R180, R190) -/

theorem enterReset_of_clkRuns (h : s.clkRuns = true) :
    s.enterReset = { State.reset with inReset := true, freeIndex := s.freeIndex, pending := s.pending } := by
  unfold State.enterReset
  rw [h]
  rfl

theorem lowerResetPin_of_stopped (h : s.clkRuns = false) : s.lowerResetPin n = s := if_pos (by simp [h])

theorem lowerResetPin_of_long (h : s.clkRuns = true) (hn : 16 ≤ n) : s.lowerResetPin n = s.enterReset := by
  unfold State.lowerResetPin
  rw [if_neg (by simp [h]), if_pos hn]

/-- R190: a low pulse shorter than 16 samples does nothing, or resets the part. -/
theorem lowerResetPin_of_short (h : s.clkRuns = true) (hn : n < 16) :
    s.lowerResetPin n = s.useFree ∨ s.lowerResetPin n = s.useFree.enterReset := by
  unfold State.lowerResetPin
  rw [if_neg (by simp [h]), if_neg (Nat.not_le.mpr hn)]
  split
  · exact .inr rfl
  · exact .inl rfl

/-! ## RESET_RELEASE (R135, R190) -/

theorem exec_resetRelease_taken (hr : s.inReset = true) (hc : s.clkRuns = true) (trigHigh csLow : Bool) :
    exec (.resetRelease trigHigh csLow) s = .next (s.leaveReset trigHigh csLow) :=
  congrArg _ (if_pos (by simp [hr, hc]))

theorem exec_resetRelease_ignored (h : s.inReset = false ∨ s.clkRuns = false) (trigHigh csLow : Bool) :
    exec (.resetRelease trigHigh csLow) s = .next s :=
  congrArg _ (if_neg (by rcases h with h | h <;> simp [h]))

/-! ## What is ignored (R163, R168, R190) -/

theorem takeShortFrame_ignored (h : ¬ TakesEvents s) (bits : Nat) : s.takeShortFrame bits = s := by
  rw [← State.takesEvents_iff] at h
  exact if_pos (by simpa using h)

/-- R163, R190: in reset, and while CLK does not run, every command and event but the resets and RESET_RELEASE does nothing: it
is the end of a frame, or an event of the running part. The resets and RESET_RELEASE do nothing without CLK. -/
theorem exec_ignored (h : ¬ TakesEvents s) (hw : c.wellFormed = true) (hp : c ≠ .powerOnReset)
    (hr : ∀ n, c = .rstN n → s.clkRuns = false) (hl : ∀ a b, c = .resetRelease a b → s.clkRuns = false) :
    exec c s = .next s := by
  have frame (code : Byte) (f : Frame) (act : State → Reply) :
      (.next (s.takeFrame code f act) : Host.Outcome State Fault Refusal) = .next s :=
    congrArg _ (State.takeFrame_ignored h code f act)
  have event (e : State → State) : (.next (s.whenRunning e) : Host.Outcome State Fault Refusal) = .next s :=
    congrArg _ (State.whenRunning_ignored h)
  cases c
  case nop | bridgeStatus | softReset | groupConfig | groupOpen | groupClose | groupArm | groupDisarm | groupLaunch |
      groupDiscard | groupStatus | entryRead | windowSet | windowClear | windowRead | pointSet | pointRead |
      timebaseConfig | timebaseRead | timebaseLoad | portConfig | queuePop | irqConfig => exact frame ..
  case unknownCmd code f =>
    have hn : ¬ codeNamesCommand code = true := by simpa [Instr.wellFormed] using hw
    exact (if_neg hn).trans (frame ..)
  case frameWithoutCompleteByte bits => exact congrArg _ (takeShortFrame_ignored h bits.val)
  case powerOnReset => exact absurd rfl hp
  case rstN n => exact congrArg _ (lowerResetPin_of_stopped (hr n rfl))
  case resetRelease a b => exact exec_resetRelease_ignored (.inr (hl a b rfl)) a b
  case acceptance t => exact (if_pos hw).trans (event _)
  case judgement | transactionResponse | grant | response | responseTimeout | taking | settlingEnd | releaseCompletion |
      lineTimerExpiry | fsyncEdge | trigEdge | deadlineExpiry => exact event _

/-- Settles O4: the two resets, RESET_RELEASE, and then what is ignored. -/
theorem resetsClearThePart : Obligations.ResetsClearThePart := by
  unfold Obligations.ResetsClearThePart
  refine ⟨fun _ => rfl, fun s n hc hn => ?_, fun s n hc hn => ?_, fun s a b hr hc => exec_resetRelease_taken hr hc a b,
    fun s c hc hw hp => ?_, fun s a b hr => exec_resetRelease_ignored (.inl hr) a b, fun s c hr hw hp hn hl => ?_⟩
  · exact congrArg _ ((lowerResetPin_of_long hc hn).trans (enterReset_of_clkRuns hc))
  · exact (lowerResetPin_of_short hc hn).imp (congrArg _) fun e =>
      congrArg _ (e.trans (enterReset_of_clkRuns (s := s.useFree) hc))
  · exact exec_ignored (by simp [hc]) hw hp (fun _ _ => hc) fun _ _ _ => hc
  · exact exec_ignored (by simp [hr]) hw hp (fun n e => absurd e (hn n)) fun a b e => absurd e (hl a b)

end Sys2Proof.Machine
end

section
/-!
The command POINT_SET (R129, R186).
-/
namespace Sys2Proof.Machine

open Safety

variable {s : State} {f : Frame} {p : Fin 8} {r : LaunchPoint}

/-- R186: a frame whose fields are those of a launch point carries it. -/
theorem launchPointOf_eq_some (he : yesNo r.enabled = f.byte 2) (hv : r.frameValue = f.half 3) (hm : r.frameMask = f.half 5)
    (hc : yesNo r.lineCheck = f.byte 7) (hl : r.lineValue = (f.half 8).toNat) (hr : r.lineValue ≤ 4095) :
    launchPointOf f = some r := by
  unfold launchPointOf
  rw [(flag?_eq_some_iff f 2 _).mpr he.symm, (flag?_eq_some_iff f 7 _).mpr hc.symm, ← hv, ← hm, ← hl]
  exact if_pos hr

/-- R186: a frame with a field out of range carries none. -/
theorem launchPointOf_eq_none (h : 1 < (f.byte 2).toNat ∨ 1 < (f.byte 7).toNat ∨ 4095 < (f.half 8).toNat) :
    launchPointOf f = none := by
  unfold launchPointOf
  split
  · next enabled lineCheck he hc =>
    rcases h with h | h | h
    · simp [(flag?_eq_none_iff f 2).mpr h] at he
    · simp [(flag?_eq_none_iff f 7).mpr h] at hc
    · exact if_neg (Nat.not_le.mpr h)
  · rfl

theorem pointSetReply_of_some (h : launchPointOf f = some r) : pointSetReply f s p = ⟨s.setPoint p r, [0x00]⟩ := by
  simp only [pointSetReply, h]
  rfl

theorem pointSetReply_of_none (h : launchPointOf f = none) : pointSetReply f s p = ⟨s, [0x03]⟩ := by
  simp only [pointSetReply, h]
  rfl

/-- Settles O27, by whether the frame carries a launch point. -/
theorem pointSetWritesThePoint : Obligations.PointSetWritesThePoint := by
  unfold Obligations.PointSetWritesThePoint
  refine ⟨fun s f p r h hf hi he hv hm hc hl hr => ?_, fun s f p h hf hi hbad => ?_⟩
  · exact next_takeFrame_indexed h (by exact hf) hi (pointSetReply_of_some (launchPointOf_eq_some he hv hm hc hl hr))
  · exact next_takeFrame_indexed_same h (by exact hf) hi (pointSetReply_of_none (launchPointOf_eq_none hbad))

end Sys2Proof.Machine
end

section
/-!
The event TRIG_EDGE: the groups that an edge fires (R135, R139), and the pulses that are no edge or may be none (R126, R190).
-/
namespace Sys2Proof.Machine

open Safety

variable {s : State} {low high : Nat}

/-! ## The level seen on TRIG stands apart from what an edge does -/

section TrigLevel

variable (s : State) (b : Bool)

theorem fireGroups_setTrigLevel (gs : List GroupId) :
    (s.setTrigLevel b).fireGroups gs = (s.fireGroups gs).setTrigLevel b := by
  refine List.foldl_hom (State.setTrigLevel · b) fun s g => ?_
  rw [firingNotice_eq, firingNotice_eq]
  rfl

theorem completeGroup_setTrigLevel (g : GroupId) (written failed : Nat) :
    (s.setTrigLevel b).completeGroup g written failed = (s.completeGroup g written failed).setTrigLevel b := by
  have hs : (s.setTrigLevel b).settledBy g written failed = (s.settledBy g written failed).setTrigLevel b := by
    rw [settledBy_eq, settledBy_eq]
    rfl
  rw [completeGroup_eq, completeGroup_eq, hs]
  exact fireGroups_setTrigLevel ..

theorem takeHead_setTrigLevel : (s.setTrigLevel b).takeHead = s.takeHead.setTrigLevel b := by
  rcases takeHead_cases s with ⟨h, e⟩ | ⟨g, rest, hi, hq, ⟨hs, e⟩ | ⟨hs, -⟩⟩
  · rw [e, takeHead_of_nothing (by exact h)]
  · rw [e, takeHead_of_queue (by exact hi) (by exact hq), if_neg (by exact hs)]
    rfl
  · cases he : (s.group g).entries with
    | nil =>
      rw [takeHead_of_end hi hq hs he, takeHead_of_end (s := s.setTrigLevel b) hi hq hs he]
      exact congrArg (released · g) (completeGroup_setTrigLevel (headTaken s g rest) b g 0 0)
    | cons w es =>
      have hw : (s.group g).entries[0]? = some w := by rw [he]; rfl
      rw [takeHead_of_entry hi hq hs hw, takeHead_of_entry (s := s.setTrigLevel b) hi hq hs hw]
      rfl

theorem grantOne_setTrigLevel : (s.setTrigLevel b).grantOne = s.grantOne.setTrigLevel b := by
  have hw : (s.setTrigLevel b).winner = s.winner := rfl
  unfold State.grantOne
  rw [hw, State.setTrigLevel_port]
  split
  · unfold State.issuePass
    rw [State.setTrigLevel_port]
    split <;> rfl
  · unfold State.issueRelease
    rw [State.setTrigLevel_engine]
    split <;> rfl
  · rfl

theorem takeNext_setTrigLevel : (s.setTrigLevel b).takeNext = s.takeNext.setTrigLevel b := by
  unfold State.takeNext
  rw [State.setTrigLevel_engine, State.setTrigLevel_launchQueue]
  split
  · simp only [takeHead_setTrigLevel, State.grantAll, grantOne_setTrigLevel]
  · rfl

/-- R126, R135: what a TRIG edge does to the part does not depend on the level seen. -/
theorem takeTrig_setTrigLevel : (s.setTrigLevel b).takeTrig = s.takeTrig.setTrigLevel b := by
  have hg : (s.setTrigLevel b).trigGroups = s.trigGroups := rfl
  unfold State.takeTrig State.takeIfAppended
  rw [hg, fireGroups_setTrigLevel, State.setTrigLevel_launchQueue, State.setTrigLevel_launchQueue, takeNext_setTrigLevel]
  split <;> rfl

end TrigLevel

/-! ## The groups that an edge fires (R135, R139) -/

theorem mem_trigGroups (s : State) (g : GroupId) : g ∈ s.trigGroups ↔ (s.group g).condition = some .trig := by
  simp [State.trigGroups, mem_allGroups]

/-- R135, R139: what the firing notices of a TRIG edge do, before any group is taken. -/
theorem onlyNotifies_fireGroups {gs : List GroupId} (hl : gs.Nodup) (s : State) : OnlyNotifies s (s.fireGroups gs) := by
  rw [(fireGroups_spec hl s).2]
  exact ⟨rfl, rfl, rfl, List.prefix_append ..⟩

/-! ## TRIG_EDGE -/

/-- R135: TRIG has stayed high since a rise that was not missed. -/
theorem stayedHigh_iff : (s.trigLevel && low == 0 && !s.missedEdges.trig) = true ↔
    s.trigLevel = true ∧ low = 0 ∧ s.missedEdges.trig = false := by
  simp [and_assoc]

theorem exec_trigEdge (h : TakesEvents s) : exec (.trigEdge low high) s =
    .next (if s.trigLevel && low == 0 && !s.missedEdges.trig then s
      else (s.setTrigLevel (levelAfter s.trigLevel low high)).sampleEdge s.missedEdges.trig low high State.noteTrig
        State.takeTrig) :=
  congrArg _ (State.whenRunning_taken h)

/-- R135, R148: a TRIG that has stayed high since a rise that was not missed is no edge. -/
theorem exec_trigEdge_of_high (h : TakesEvents s) (hl : s.trigLevel = true) (hm : s.missedEdges.trig = false) :
    exec (.trigEdge 0 high) s = .next s := by
  rw [exec_trigEdge h, if_pos (stayedHigh_iff.mpr ⟨hl, rfl, hm⟩)]

/-- R135, R190: any other rise is sampled as the edges of an input are. -/
theorem exec_trigEdge_of_sampled (h : TakesEvents s)
    (hr : ¬ (s.trigLevel = true ∧ low = 0 ∧ s.missedEdges.trig = false)) :
    exec (.trigEdge low high) s = .next ((s.setTrigLevel (levelAfter s.trigLevel low high)).sampleEdge
      s.missedEdges.trig low high State.noteTrig State.takeTrig) := by
  rw [exec_trigEdge h, if_neg (mt stayedHigh_iff.mp hr)]

theorem exec_trigEdge_of_certain (h : TakesEvents s) (hc : EdgeCertain s.missedEdges.trig low high) :
    exec (.trigEdge low high) s = .next (trigNoted s low high false).takeTrig := by
  have hr : ¬ (s.trigLevel = true ∧ low = 0 ∧ s.missedEdges.trig = false) := by
    rintro ⟨-, rfl, hm⟩
    simp [EdgeCertain, hm] at hc
  rw [exec_trigEdge_of_sampled h hr, sampleEdge_of_certain hc]
  rfl

/-- R135, R190: any other pulse is taken as no edge, or does what a certain edge does, but for the level seen. -/
theorem exec_trigEdge_of_not_certain (h : TakesEvents s) (hc : ¬ EdgeCertain s.missedEdges.trig low high)
    (hl : s.trigLevel = false ∨ low ≠ 0) :
    exec (.trigEdge low high) s = .next (trigNoted s.useFree low high (decide (2 ≤ low))) ∨
      exec (.trigEdge low high) s =
        .next ((trigNoted s.useFree 2 2 false).takeTrig.setTrigLevel (levelAfter s.trigLevel low high)) := by
  have hr : ¬ (s.trigLevel = true ∧ low = 0 ∧ s.missedEdges.trig = false) := by
    rintro ⟨h1, h2, -⟩
    exact hl.elim (fun h => absurd h1 (by simp [h])) fun h => h h2
  rw [exec_trigEdge_of_sampled h hr]
  refine (sampleEdge_of_not_certain hc _ _).imp (congrArg _) fun e => congrArg _ (e.trans ?_)
  exact takeTrig_setTrigLevel (trigNoted s.useFree 2 2 false) (levelAfter s.trigLevel low high)

/-- Settles O48: an edge that is certain by the groups that it fires, and any other pulse by the level and the free value. -/
theorem trigFiresItsGroups : Obligations.TrigFiresItsGroups := by
  unfold Obligations.TrigFiresItsGroups
  refine ⟨fun s low high hs hc => ?_, fun s high hs hl hm => exec_trigEdge_of_high hs hl hm,
    fun s low high hs hc hl => ?_⟩
  · have hnodup : s.trigGroups.Nodup := nodup_allGroups_filter _
    obtain ⟨hgroup, hrest⟩ := fireGroups_spec hnodup (trigNoted s low high false)
    have hn := onlyNotifies_fireGroups hnodup (trigNoted s low high false)
    have hq : ((trigNoted s low high false).fireGroups s.trigGroups).launchQueue =
        s.launchQueue ++ s.trigGroups.filter fun k => (s.group k).state = .armed := congrArg State.launchQueue hrest
    obtain ⟨hstays, htakes⟩ := takeIfAppended_of_onlyNotifies hn hs
    rw [exec_trigEdge_of_certain hs hc]
    refine ⟨(trigNoted s low high false).fireGroups s.trigGroups,
      s.trigGroups.filter fun k => (s.group k).state = .armed, fun g => ?_, (pairwise_allGroups_filter _).filter _,
      fun g => ?_, hrest, fun hi => ?_, fun _ hne => ?_⟩
    · exact (hgroup g).trans (if_congr (mem_trigGroups s g) rfl rfl)
    · rw [List.mem_filter, mem_trigGroups, decide_eq_true_eq, and_comm]
    · exact congrArg _ (hstays (hi.imp_right fun e => by rw [hq, e, List.append_nil]))
    · exact (htakes fun e => hne (List.append_right_eq_self.mp (hq.symm.trans e))).symm
  · have hedge := exec_trigEdge_of_certain (s := s.useFree) (low := 2) (high := 2) hs (.inl ⟨le_rfl, le_rfl⟩)
    exact (exec_trigEdge_of_not_certain hs hc hl).imp id fun e => ⟨_, hedge, e⟩

end Sys2Proof.Machine
end

section
/-!
The completion queue and the interrupt line: the offer of a record (R153), QUEUE_POP (R155) and IRQ_CONFIG (R159), and by which
commands records leave the queue (R152, R161).
-/
namespace Sys2Proof.Machine

open Safety

variable {s t : State} {f : Frame} {r : CompletionRecord} {rest : List CompletionRecord} {c : Instr}

/-! ## Urgent kinds and IRQ_N (R150, R158) -/

theorem isUrgent_iff (k : RecordKind) : k.isUrgent = true ↔ k ∈ ([.releaseFault, .deadlineCancelled, .chainBroken, .overflow,
    .syncLost, .downstreamStuck] : List RecordKind) := by
  cases k <;> decide

theorem irqLevel_iff (irq : IrqConfig) (q : CompletionQueue) : irqLevel irq q = true ↔
    irq.master = true ∧ (irq.threshold ≤ q.records.length ∨ irq.urgent = true ∧ 0 < q.urgent) := by
  simp [irqLevel]

/-! ## The offer of a record (R153) -/

theorem CompletionQueue.offer_of_room {q : CompletionQueue} (h : q.records.length < 32) (r : CompletionRecord) :
    q.offer r = ⟨q.records ++ [{ r with lost := q.lost }], 0, q.urgent + if r.kind.isUrgent then 1 else 0⟩ := if_pos h

theorem CompletionQueue.offer_of_full {q : CompletionQueue} (h : 32 ≤ q.records.length) (r : CompletionRecord) :
    q.offer r = { q with lost := min (q.lost + 1) 255 } := if_neg (Nat.not_lt.mpr h)

/-- Settles O50, by whether the queue has room for the record. -/
theorem offerStoresOrDrops : Obligations.OfferStoresOrDrops := by
  unfold Obligations.OfferStoresOrDrops
  rintro s _ kind group report flags rfl
  refine ⟨fun h => ?_, fun h => CompletionQueue.offer_of_full h _, irqLevel_iff _ _, rfl⟩
  have hq := CompletionQueue.offer_of_room h ⟨kind, group, report, s.timebase.frame, s.timebase.line, flags, 0⟩
  refine ⟨congrArg CompletionQueue.records hq, congrArg CompletionQueue.lost hq, ?_⟩
  exact (congrArg CompletionQueue.urgent hq).trans (congrArg _ (if_congr (isUrgent_iff kind) rfl rfl))

/-! ## QUEUE_POP (R155, R189) -/

theorem recordGroupBytes_eq (g : Option GroupId) :
    recordGroupBytes g = [yesNo g.isSome, BitVec.ofNat 8 ((g.map Fin.val).getD 0)] := by
  cases g <;> rfl

/-- R189: the bytes of a record in the manual's arithmetic. -/
theorem CompletionRecord.bytes_eq (r : CompletionRecord) : r.bytes =
    [r.kind.code, yesNo r.group.isSome, BitVec.ofNat 8 ((r.group.map Fin.val).getD 0), yesNo r.report.isSome] ++
      bigEndian16 ((r.report.map fun p => p.sequence.toNat).getD 0) ++ bigEndian16 r.frame.toNat ++
      bigEndian16 r.line ++ [yesNo r.report.isSome] ++ bigEndian16 ((r.report.map fun p => p.written).getD 0) ++
      bigEndian16 ((r.report.map fun p => p.failed).getD 0) ++
      [BitVec.setWidth 8 (BitVec.ofBool r.flags.repeated ++ BitVec.ofBool r.flags.overflowed ++
          BitVec.ofBool r.flags.collided ++ BitVec.ofBool r.flags.missed ++ BitVec.ofBool r.flags.forced),
        BitVec.ofNat 8 r.lost] := by
  unfold CompletionRecord.bytes
  cases r.report <;> simp [recordGroupBytes_eq, countBytes_eq, halfBytes_eq, flagBits_five, byteOf, yesNo]

theorem reportedAfter_eq (r : CompletionRecord) (counts : List ReportedCounts) :
    reportedAfter r counts = if r.kind = .released then counts.tail else counts := by
  unfold reportedAfter
  cases r.kind <;> rfl

theorem queuePopReply_of_empty (h : s.completions.records = []) : queuePopReply s = ⟨s, [0x08]⟩ := by
  simp only [queuePopReply, h]
  rfl

/-- R155, R158: the oldest record leaves, with what was reported beside it. -/
theorem queuePopReply_of_cons (h : s.completions.records = r :: rest) : queuePopReply s =
    ⟨(s.setCompletions s.irq ⟨rest, s.completions.lost, s.completions.urgent - if r.kind.isUrgent then 1 else 0⟩).setReported
      (if r.kind = .released then s.reported.tail else s.reported), 0x00 :: r.bytes⟩ := by
  simp only [queuePopReply, h, reportedAfter_eq]
  rfl

/-! ## IRQ_CONFIG (R159, R186) -/

/-- R186: a frame whose fields lie in their ranges carries an interrupt configuration. -/
theorem irqConfigOf_eq_some {i : IrqConfig} (hm : yesNo i.master = f.byte 2) (ht : i.threshold = (f.byte 3).toNat)
    (hlo : 1 ≤ i.threshold) (hhi : i.threshold ≤ 32) (hu : yesNo i.urgent = f.byte 4) : irqConfigOf f = some i := by
  unfold irqConfigOf
  rw [(flag?_eq_some_iff f 2 _).mpr hm.symm, (flag?_eq_some_iff f 4 _).mpr hu.symm, ← ht]
  exact if_pos ⟨hlo, hhi⟩

/-- R186: a frame with a field out of range carries none. -/
theorem irqConfigOf_eq_none
    (h : 1 < (f.byte 2).toNat ∨ (f.byte 3).toNat = 0 ∨ 32 < (f.byte 3).toNat ∨ 1 < (f.byte 4).toNat) : irqConfigOf f = none := by
  unfold irqConfigOf
  split
  · next hm hu =>
    rcases h with h | h | h | h
    · simp [(flag?_eq_none_iff f 2).mpr h] at hm
    · exact if_neg (by omega)
    · exact if_neg (by omega)
    · simp [(flag?_eq_none_iff f 4).mpr h] at hu
  · rfl

theorem irqConfigReply_of_some {i : IrqConfig} (h : irqConfigOf f = some i) :
    irqConfigReply f s = ⟨s.setCompletions i s.completions, [0x00]⟩ := by
  simp only [irqConfigReply, h]
  rfl

theorem irqConfigReply_of_none (h : irqConfigOf f = none) : irqConfigReply f s = ⟨s, [0x03]⟩ := by
  simp only [irqConfigReply, h]
  rfl

/-- Settles O29: QUEUE_POP by whether a record is queued, IRQ_CONFIG by whether its frame carries a configuration. -/
theorem queueCommandsFollowTheRecords : Obligations.QueueCommandsFollowTheRecords := by
  unfold Obligations.QueueCommandsFollowTheRecords
  refine ⟨fun s f r rest urgent h hl hr hu => ?_, fun s f h hl hr => ?_, fun s f i h hl hm ht hlo hhi hu => ?_,
    fun s f h hl hbad => ?_⟩
  · have hu : urgent = s.completions.urgent - if r.kind.isUrgent then 1 else 0 := by
      simp only [hu, ← isUrgent_iff]
      split <;> rfl
    refine next_takeFrame h (by exact hl) ((queuePopReply_of_cons (s := s.receive 0x40 f) hr).trans ?_)
    rw [CompletionRecord.bytes_eq, hu]
    rfl
  · exact next_takeFrame_same h (by exact hl) (queuePopReply_of_empty hr)
  · exact next_takeFrame h (by exact hl) (irqConfigReply_of_some (irqConfigOf_eq_some hm ht hlo hhi hu))
  · exact next_takeFrame_same h (by exact hl) (irqConfigReply_of_none (irqConfigOf_eq_none hbad))

/-! ## Which commands take records away (R152, R153, R161) -/

/-- R153: from `s` to `t` records are at most added at the end of the queue. -/
def OnlyAddsRecords (s t : State) : Prop := s.completions.records <+: t.completions.records

theorem onlyAddsRecords_of_eq (h : t.completions = s.completions) : OnlyAddsRecords s t := by
  rw [OnlyAddsRecords, h]

/-- A command of the control link takes no record away when its action takes none: the link holds no records. -/
theorem onlyAddsRecords_takeFrame (s : State) (code : Byte) (f : Frame) {act : State → Reply}
    (h : ∀ s, OnlyAddsRecords s (act s).state) : OnlyAddsRecords s (s.takeFrame code f act) := by
  rcases s.takeFrame_cases code f act with e | ⟨l, e⟩ | ⟨l, e⟩ <;> rw [e]
  · exact onlyAddsRecords_of_eq rfl
  · exact onlyAddsRecords_of_eq rfl
  · exact h (s.receive code f)

theorem onlyAddsRecords_indexed (s : State) (code : Byte) (f : Frame) {n : Nat} {act : State → Fin n → Reply}
    (h : ∀ s i, OnlyAddsRecords s (act s i).state) :
    OnlyAddsRecords s (s.takeFrame code f fun s => withIndex n f s (act s)) := by
  refine onlyAddsRecords_takeFrame s code f fun s => ?_
  rcases withIndex_cases n f s (act s) with e | ⟨i, e⟩ <;> rw [e]
  · exact onlyAddsRecords_of_eq rfl
  · exact h s i

/-! The commands that set a configuration leave the completion queue alone, refused or not. -/

theorem completions_groupConfigReply (f : Frame) (s : State) (g : GroupId) :
    (groupConfigReply f s g).state.completions = s.completions := by
  unfold groupConfigReply
  split
  · rfl
  · split <;> rfl

theorem completions_windowSetReply (f : Frame) (s : State) (w : Fin 16) :
    (windowSetReply f s w).state.completions = s.completions := by
  unfold windowSetReply
  split
  · rfl
  · split <;> rfl

theorem completions_windowClearReply (s : State) (w : Fin 16) :
    (windowClearReply s w).state.completions = s.completions := by
  unfold windowClearReply
  split <;> rfl

theorem completions_pointSetReply (f : Frame) (s : State) (p : Fin 8) :
    (pointSetReply f s p).state.completions = s.completions := by
  unfold pointSetReply
  split <;> rfl

theorem completions_timebaseConfigReply (f : Frame) (s : State) :
    (timebaseConfigReply f s).state.completions = s.completions := by
  unfold timebaseConfigReply
  split <;> rfl

theorem completions_portConfigReply (n : Nat) (s : State) : (portConfigReply n s).state.completions = s.completions := by
  unfold portConfigReply
  split <;> rfl

/-- R159: IRQ_CONFIG sets the line anew, and leaves the queue alone. -/
theorem completions_irqConfigReply (f : Frame) (s : State) : (irqConfigReply f s).state.completions = s.completions := by
  unfold irqConfigReply
  split <;> rfl

theorem completions_takeShortFrame (s : State) (n : Nat) : (s.takeShortFrame n).completions = s.completions := by
  unfold State.takeShortFrame
  split
  · rfl
  · split <;> rfl

/-- R152, R153, R161: every command but QUEUE_POP and the resets, command by command. -/
theorem onlyAddsRecords_exec (hq : ∀ f, c ≠ .queuePop f) (hs : ∀ f, c ≠ .softReset f) (hp : c ≠ .powerOnReset)
    (hr : ∀ n, c ≠ .rstN n) (h : exec c s = .next t) : OnlyAddsRecords s t := by
  have event {e : State → State} (he : ∀ s, Keeps s (e s)) : OnlyAddsRecords s (s.whenRunning e) :=
    (keeps_whenRunning s he).records
  cases c
  case queuePop f => exact absurd rfl (hq f)
  case softReset f => exact absurd rfl (hs f)
  case powerOnReset => exact absurd rfl hp
  case rstN n => exact absurd rfl (hr n)
  case nop f | bridgeStatus f | timebaseRead f | timebaseLoad f =>
    cases h; exact onlyAddsRecords_takeFrame s _ f fun _ => onlyAddsRecords_of_eq rfl
  case groupStatus f | windowRead f | pointRead f =>
    cases h; exact onlyAddsRecords_indexed s _ f fun _ _ => onlyAddsRecords_of_eq rfl
  case unknownCmd code f =>
    simp only [exec, execUnknownCmd] at h
    split at h
    · cases h
    · cases h; exact onlyAddsRecords_takeFrame s _ f fun _ => onlyAddsRecords_of_eq rfl
  case frameWithoutCompleteByte bits => cases h; exact onlyAddsRecords_of_eq (completions_takeShortFrame s _)
  case timebaseConfig f =>
    cases h; exact onlyAddsRecords_takeFrame s _ f fun s => onlyAddsRecords_of_eq (completions_timebaseConfigReply f s)
  case portConfig f =>
    cases h; exact onlyAddsRecords_takeFrame s _ f fun s => onlyAddsRecords_of_eq (completions_portConfigReply _ s)
  case irqConfig f =>
    cases h; exact onlyAddsRecords_takeFrame s _ f fun s => onlyAddsRecords_of_eq (completions_irqConfigReply f s)
  case groupConfig f =>
    cases h; exact onlyAddsRecords_indexed s _ f fun s g => onlyAddsRecords_of_eq (completions_groupConfigReply f s g)
  case windowSet f =>
    cases h; exact onlyAddsRecords_indexed s _ f fun s w => onlyAddsRecords_of_eq (completions_windowSetReply f s w)
  case windowClear f =>
    cases h; exact onlyAddsRecords_indexed s _ f fun s w => onlyAddsRecords_of_eq (completions_windowClearReply s w)
  case pointSet f =>
    cases h; exact onlyAddsRecords_indexed s _ f fun s p => onlyAddsRecords_of_eq (completions_pointSetReply f s p)
  case groupOpen f => cases h; exact onlyAddsRecords_indexed s _ f fun s g => (keeps_groupOpenReply s g).records
  case groupClose f => cases h; exact onlyAddsRecords_indexed s _ f fun s g => (keeps_groupCloseReply f s g).records
  case groupArm f => cases h; exact onlyAddsRecords_indexed s _ f fun s g => (keeps_groupArmReply f s g).records
  case groupDisarm f => cases h; exact onlyAddsRecords_indexed s _ f fun s g => (keeps_groupDisarmReply s g).records
  case groupLaunch f => cases h; exact onlyAddsRecords_indexed s _ f fun s g => (keeps_groupLaunchReply s g).records
  case groupDiscard f => cases h; exact onlyAddsRecords_indexed s _ f fun s g => (keeps_discard s g).records
  case entryRead f => cases h; exact onlyAddsRecords_indexed s _ f fun s g => (keeps_entryReadReply g _ s).records
  case acceptance x =>
    simp only [exec, execAcceptance] at h
    split at h
    · cases h; exact event fun s => keeps_acceptTransaction s x
    · cases h
  case judgement => cases h; exact event fun s => keeps_judge keeps_betweenBeats s
  case transactionResponse => cases h; exact event keeps_respond
  case grant => cases h; exact event keeps_grantOne
  case response g answer data => cases h; exact event fun s => keeps_takeResponse s g answer data
  case responseTimeout g => cases h; exact event fun s => keeps_timeOut s g
  case taking => cases h; exact event keeps_takeNext
  case settlingEnd =>
    cases h
    refine event fun s => ?_
    split
    · exact (keeps_settleOn s).trans (keeps_grantAll _)
    · exact .refl s
  case releaseCompletion =>
    cases h
    refine event fun s => ?_
    split
    · exact (keeps_endRelease ..).trans (keeps_grantAll _)
    · exact .refl s
  case lineTimerExpiry => cases h; exact event keeps_expireLine
  case fsyncEdge low high =>
    cases h; exact event fun s => keeps_sampleEdge s _ low high (fun _ _ => keeps_setMissed ..) keeps_takeFsync
  case trigEdge low high =>
    cases h
    refine event fun s => ?_
    split
    · exact .refl s
    · exact (keeps_setTrigLevel ..).trans (keeps_sampleEdge _ _ low high (fun _ _ => keeps_setMissed ..) keeps_takeTrig)
  case deadlineExpiry g => cases h; exact event fun s => (keeps_expiryNotice s g).trans (keeps_takeIfAppended ..)
  case resetRelease trigHigh csLow =>
    cases h
    split <;> exact onlyAddsRecords_of_eq rfl

/-- Settles O60. -/
theorem recordsLeaveOnlyByTheirCommands : Obligations.RecordsLeaveOnlyByTheirCommands := by
  unfold Obligations.RecordsLeaveOnlyByTheirCommands
  exact fun _ _ _ h hq hs hp hr => onlyAddsRecords_exec hq hs hp hr h

end Sys2Proof.Machine
end

section
/-!
Frames and the commands that they carry: which command a code names, its own meaning, and that the two agree (R164, R165,
R183). The step takes the command at the front of its queue (R172).
-/
namespace Sys2Proof.Machine

open Safety

/-- Settles O1. -/
theorem stepTakesFrontCommand : Obligations.StepTakesFrontCommand := by
  unfold Obligations.StepTakesFrontCommand
  intro c rest s h
  simp [step, h]

variable {code : Byte} {n : Nat}

/-! ## The codes of the catalogue (R183) -/

/-- R183: the codes that name a command. -/
def commandCodes : List Byte :=
  [0x00, 0x01, 0x0A, 0x10, 0x11, 0x12, 0x13, 0x14, 0x15, 0x16, 0x17, 0x18, 0x20, 0x21, 0x22, 0x28, 0x29, 0x30, 0x31, 0x32,
    0x38, 0x40, 0x41]

theorem codeNamesCommand_iff (code : Byte) : codeNamesCommand code = true ↔ code ∈ commandCodes := by
  revert code; decide +kernel

theorem codeNamesCommand_of_some (h : frameLength code = some n) : codeNamesCommand code = true := by
  simp [codeNamesCommand, h]

theorem codeNamesCommand_of_none (h : frameLength code = none) : codeNamesCommand code = false := by
  simp [codeNamesCommand, h]

/-- R165: a code that names no command is UNKNOWN_CMD. -/
theorem commandOfCode_of_unnamed (h : codeNamesCommand code = false) (f : Frame) :
    commandOfCode code f = .unknownCmd code f := by
  unfold commandOfCode
  split
  case h_24 => rfl
  all_goals next hc => simp [codeNamesCommand, frameLength, hc] at h

/-- R164, R183: the frame that carries the command of a code is the code and the bytes after it. -/
theorem frameOfCommand_commandOfCode (code : Byte) (f : Frame) :
    frameOfCommand (commandOfCode code f) = some (code :: f.bytes, f.extraBits) := by
  cases hc : codeNamesCommand code with
  | true =>
    rw [codeNamesCommand_iff] at hc
    fin_cases hc <;> rfl
  | false => rw [commandOfCode_of_unnamed hc]; rfl

theorem wellFormed_commandOfCode (code : Byte) (f : Frame) : (commandOfCode code f).wellFormed = true := by
  cases hc : codeNamesCommand code with
  | true =>
    rw [codeNamesCommand_iff] at hc
    fin_cases hc <;> rfl
  | false => rw [commandOfCode_of_unnamed hc]; simp [Instr.wellFormed, hc]

/-- R164, R183: reading back the frame of a command gives the command. -/
theorem commandOfFrame_of_frameOfCommand {c : Instr} {bytes : List Byte} {extra : Fin 8} (hw : c.wellFormed = true)
    (h : frameOfCommand c = some (bytes, extra)) : commandOfFrame bytes extra = c := by
  cases c
  case unknownCmd code f =>
    cases h
    exact commandOfCode_of_unnamed (by simpa [Instr.wellFormed] using hw) f
  all_goals cases h
  all_goals rfl

/-- Settles O5, each direction command by command. -/
theorem framesAndCommandsAgree : Obligations.FramesAndCommandsAgree := by
  unfold Obligations.FramesAndCommandsAgree
  refine ⟨fun c bytes extra hw h => commandOfFrame_of_frameOfCommand hw h, fun bytes extra => ?_⟩
  cases bytes with
  | nil => exact ⟨rfl, rfl⟩
  | cons code rest =>
    exact ⟨frameOfCommand_commandOfCode code ⟨rest, extra⟩, wellFormed_commandOfCode code ⟨rest, extra⟩⟩

/-! ## What the command of a code does (R166, R167) -/

/-- R164 to R167: what the command of a code does to the part, and its result. -/
def commandReply (code : Byte) (f : Frame) : State → Reply :=
  match code.toNat with
  | 0x00 => accept
  | 0x01 => fun s => report s.bridgeStatusBytes s
  | 0x0A => fun s => accept s.softReset
  | 0x10 => fun s => withIndex 8 f s (groupConfigReply f s)
  | 0x11 => fun s => withIndex 8 f s (groupOpenReply s)
  | 0x12 => fun s => withIndex 8 f s (groupCloseReply f s)
  | 0x13 => fun s => withIndex 8 f s (groupArmReply f s)
  | 0x14 => fun s => withIndex 8 f s (groupDisarmReply s)
  | 0x15 => fun s => withIndex 8 f s (groupLaunchReply s)
  | 0x16 => fun s => withIndex 8 f s fun g => accept (s.discard g)
  | 0x17 => fun s => withIndex 8 f s fun g => report (s.group g).bytes s
  | 0x18 => fun s => withIndex 8 f s fun g => entryReadReply g (f.half 2).toNat s
  | 0x20 => fun s => withIndex 16 f s (windowSetReply f s)
  | 0x21 => fun s => withIndex 16 f s (windowClearReply s)
  | 0x22 => fun s => withIndex 16 f s fun w => report (s.window w).bytes s
  | 0x28 => fun s => withIndex 8 f s (pointSetReply f s)
  | 0x29 => fun s => withIndex 8 f s fun p => report (s.point p).bytes s
  | 0x30 => timebaseConfigReply f
  | 0x31 => fun s => report s.timebase.bytes s
  | 0x32 => fun s => accept (s.setTimebase { s.timebase with pendingLoad := some (f.half 2) })
  | 0x38 => portConfigReply (f.half 2).toNat
  | 0x40 => queuePopReply
  | 0x41 => irqConfigReply f
  | _ => refuse .unknownCmd

theorem commandReply_of_unnamed (h : codeNamesCommand code = false) (f : Frame) :
    commandReply code f = refuse .unknownCmd := by
  unfold commandReply
  split
  case h_24 => rfl
  all_goals next hc => simp [codeNamesCommand, frameLength, hc] at h

/-- R164: the end of every frame with a complete byte is the taking of the frame by its command. -/
theorem exec_commandOfCode (code : Byte) (f : Frame) (s : State) :
    exec (commandOfCode code f) s = .next (s.takeFrame code f (commandReply code f)) := by
  cases hc : codeNamesCommand code with
  | true =>
    rw [codeNamesCommand_iff] at hc
    fin_cases hc <;> rfl
  | false =>
    rw [commandOfCode_of_unnamed hc, commandReply_of_unnamed hc]
    exact if_neg (by simp [hc])

end Sys2Proof.Machine
end

section
/-!
The end of a frame in every state of the link (R162 to R168): that the command's effect does not depend on the link, the
refusals FRAME_SHORT and UNKNOWN_CMD, the frames that carry no command, and what is shifted in and out.
-/
namespace Sys2Proof.Machine

open Safety

variable {s : State} {code : Byte} {f : Frame}

/-! ## Replies that leave the link out (R166) -/

/-- A command that neither reads nor writes the control link. -/
def ReplyApart (act : State → Reply) : Prop :=
  ∀ (s : State) (l : ControlLink), act (s.setLink l) = ⟨(act s).state.setLink l, (act s).result⟩

theorem replyApart_accept {op : State → State} (h : LinkApart op) : ReplyApart fun s => accept (op s) :=
  fun s l => congrArg accept (h s l)

theorem replyApart_withIndex {n : Nat} {act : State → Fin n → Reply} (h : ∀ i, ReplyApart fun s => act s i)
    (f : Frame) : ReplyApart fun s => withIndex n f s (act s) := by
  intro s l
  dsimp only [withIndex]
  split
  · exact h _ s l
  · rfl

theorem replyApart_groupConfig (f : Frame) (g : GroupId) : ReplyApart fun s => groupConfigReply f s g := by
  intro s l
  dsimp only [groupConfigReply]
  split
  · rfl
  · rw [State.setLink_group]
    split <;> rfl

theorem replyApart_groupOpen (g : GroupId) : ReplyApart fun s => groupOpenReply s g := by
  intro s l
  dsimp only [groupOpenReply]
  rw [State.setLink_group]
  split <;> rfl

theorem replyApart_groupClose (f : Frame) (g : GroupId) : ReplyApart fun s => groupCloseReply f s g := by
  intro s l
  dsimp only [groupCloseReply]
  rw [State.setLink_group]
  split
  · rfl
  · split
    · split <;> rfl
    · rfl

theorem armCheck_setLink (s : State) (l : ControlLink) (g : GroupId) (c : LaunchCondition) :
    (s.setLink l).armCheck g c = s.armCheck g c := by
  have hr (fuel : Nat) (h : GroupId) : (s.setLink l).chainReaches g fuel h = s.chainReaches g fuel h := by
    induction fuel generalizing h with
    | zero => rfl
    | succ n ih => simp only [State.chainReaches, State.setLink_group, ih]
  cases c
  case after h => simp only [State.armCheck, State.setLink_group, hr]
  all_goals rfl

theorem replyApart_groupArm (f : Frame) (g : GroupId) : ReplyApart fun s => groupArmReply f s g := by
  intro s l
  dsimp only [groupArmReply]
  rw [State.setLink_group]
  split
  · rfl
  · split
    · rw [armCheck_setLink]
      split
      · rfl
      · exact congrArg accept (armGroup_setLink ..)
    · rfl

theorem replyApart_groupDisarm (g : GroupId) : ReplyApart fun s => groupDisarmReply s g := by
  intro s l
  dsimp only [groupDisarmReply]
  rw [State.setLink_group]
  split
  case h_1 => exact congrArg accept (breakSuccessors_setLink (s.modifyGroup g GroupRecord.toClosed) l g)
  case h_2 => exact congrArg accept (breakSuccessors_setLink ((s.modifyGroup g GroupRecord.toClosed).removeLaunch g) l g)
  all_goals rfl

theorem replyApart_groupLaunch (g : GroupId) : ReplyApart fun s => groupLaunchReply s g := by
  intro s l
  dsimp only [groupLaunchReply]
  rw [State.setLink_group]
  split
  · exact congrArg accept (takeIfAppended_setLink (s.makePending g) l s.launchQueue.length)
  · rfl

theorem replyApart_entryRead (g : GroupId) (i : Nat) : ReplyApart (entryReadReply g i) := by
  intro s l
  dsimp only [entryReadReply]
  rw [State.setLink_group]
  split <;> rfl

theorem replyApart_windowSet (f : Frame) (w : Fin 16) : ReplyApart fun s => windowSetReply f s w := by
  have hb (s : State) (l : ControlLink) : (s.setLink l).windowBusy w = s.windowBusy w := rfl
  intro s l
  dsimp only [windowSetReply]
  split
  · rfl
  · rw [hb, State.setLink_group]
    split <;> rfl

theorem replyApart_windowClear (w : Fin 16) : ReplyApart fun s => windowClearReply s w := by
  have hb (s : State) (l : ControlLink) : (s.setLink l).windowBusy w = s.windowBusy w := rfl
  intro s l
  dsimp only [windowClearReply]
  rw [hb]
  split <;> rfl

theorem replyApart_pointSet (f : Frame) (p : Fin 8) : ReplyApart fun s => pointSetReply f s p := by
  intro s l
  dsimp only [pointSetReply]
  split <;> rfl

theorem replyApart_timebaseConfig (f : Frame) : ReplyApart (timebaseConfigReply f) := by
  intro s l
  dsimp only [timebaseConfigReply]
  rw [State.setLink_timebase]
  split <;> rfl

theorem replyApart_portConfig (n : Nat) : ReplyApart (portConfigReply n) := by
  intro s l
  dsimp only [portConfigReply]
  split <;> rfl

theorem replyApart_queuePop : ReplyApart queuePopReply := by
  intro s l
  dsimp only [queuePopReply]
  rw [State.setLink_completions]
  split <;> rfl

theorem replyApart_irqConfig (f : Frame) : ReplyApart (irqConfigReply f) := by
  intro s l
  dsimp only [irqConfigReply]
  split <;> rfl

/-- R166: no command reads or writes the control link but by its frame and its result. -/
theorem replyApart_commandReply (code : Byte) (f : Frame) : ReplyApart (commandReply code f) := by
  unfold commandReply
  split
  case h_1 => exact replyApart_accept fun _ _ => rfl
  case h_3 => exact replyApart_accept (op := State.softReset) fun _ _ => rfl
  case h_4 => exact replyApart_withIndex (replyApart_groupConfig f) f
  case h_5 => exact replyApart_withIndex replyApart_groupOpen f
  case h_6 => exact replyApart_withIndex (replyApart_groupClose f) f
  case h_7 => exact replyApart_withIndex (replyApart_groupArm f) f
  case h_8 => exact replyApart_withIndex replyApart_groupDisarm f
  case h_9 => exact replyApart_withIndex replyApart_groupLaunch f
  case h_10 => exact replyApart_withIndex (fun g => replyApart_accept fun s l => discard_setLink s l g) f
  case h_12 => exact replyApart_withIndex (fun g => replyApart_entryRead g _) f
  case h_13 => exact replyApart_withIndex (replyApart_windowSet f) f
  case h_14 => exact replyApart_withIndex replyApart_windowClear f
  case h_16 => exact replyApart_withIndex (replyApart_pointSet f) f
  case h_18 => exact replyApart_timebaseConfig f
  case h_21 => exact replyApart_portConfig _
  case h_22 => exact replyApart_queuePop
  case h_23 => exact replyApart_irqConfig f
  case h_2 | h_19 | h_20 | h_24 => exact fun _ _ => rfl
  case h_11 | h_15 | h_17 => exact replyApart_withIndex (fun _ _ _ => rfl) f

/-! ## The end of a frame, by the state of the link (R163, R165, R166) -/

/-- R163: the part takes no event, a CS_N low since the release of reset ends no frame, or the link takes the frame. -/
theorem linkReady_cases (h : s.link.selected = false) :
    ¬ TakesEvents s ∨ (TakesEvents s ∧ s.link.csHeldLow = true) ∨ LinkReady s := by
  by_cases ht : TakesEvents s
  · cases hc : s.link.csHeldLow with
    | true => exact .inr (.inl ⟨ht, rfl⟩)
    | false => exact .inr (.inr ⟨ht, hc, h⟩)
  · exact .inl ht

/-- R165: FRAME_SHORT. -/
theorem exec_commandOfCode_short (h : LinkReady s) (hl : f.length < (frameLength code).getD 1) :
    exec (commandOfCode code f) s = .next (afterFrame s s code f [0x09]) := by
  rw [exec_commandOfCode, State.takeFrame_short h hl]

/-- R166, R167: a frame long enough does what its command does without the frame. -/
theorem exec_commandOfCode_long (h : LinkReady s) (hl : (frameLength code).getD 1 ≤ f.length) :
    exec (commandOfCode code f) s =
      .next (afterFrame s (commandReply code f s).state code f (commandReply code f s).result) := by
  rw [exec_commandOfCode]
  exact next_takeFrame h hl (replyApart_commandReply code f s _)

/-- R162: refused or not, a frame leaves the receiver and its result alike. -/
theorem exec_commandOfCode_ready (h : LinkReady s) (code : Byte) (f : Frame) :
    ∃ t result, exec (commandOfCode code f) s = .next (afterFrame s t code f result) := by
  rcases Nat.lt_or_ge f.length ((frameLength code).getD 1) with hl | hl
  · exact ⟨_, _, exec_commandOfCode_short h hl⟩
  · exact ⟨_, _, exec_commandOfCode_long h hl⟩

/-! ## Refusals by the link (R165) -/

/-- Settles O7, by whether the code names a command. -/
theorem framesRefusedByTheLink : Obligations.FramesRefusedByTheLink := by
  unfold Obligations.FramesRefusedByTheLink
  refine ⟨fun s code f n h hn hl => ?_, fun s code f h hn => ?_, fun s code f n hn => ?_⟩
  · exact exec_commandOfCode_short h (by simpa [hn] using hl)
  · have hc := codeNamesCommand_of_none hn
    have hl : (frameLength code).getD 1 ≤ f.length := by simp [hn, Frame.length]
    rw [← commandOfCode_of_unnamed hc, exec_commandOfCode_long h hl, commandReply_of_unnamed hc]
    rfl
  · exact if_pos (codeNamesCommand_of_some hn)

/-! ## Frames that carry no command (R163, R164) -/

/-- R164: a frame with no complete byte reaches the receiver alone. -/
theorem exec_frameWithoutCompleteByte (h : LinkReady s) (bits : Fin 8) : exec (.frameWithoutCompleteByte bits) s =
    .next { s with link := { s.link with
      selected := false, bitCount := bits.val, received := [], partialBits := []
      sdo := shiftOut s.link.result bits.val, sdoDriven := false } } := by
  obtain ⟨ht, hc, hs⟩ := h
  have hclock : s.takeShortFrame bits.val = s.clockFrame (List.replicate bits.val false) := by
    simp [State.takeShortFrame, State.takesEvents_iff.mpr ht, hc]
  show Host.Outcome.next (s.takeShortFrame bits.val) = _
  rw [hclock, State.clockFrame, clockFrame_short hs]
  rfl

theorem takeShortFrame_held (h : TakesEvents s) (hc : s.link.csHeldLow = true) (bits : Nat) :
    s.takeShortFrame bits = { s with link := { s.link with csHeldLow := false, sdoDriven := false } } := by
  simp [State.takeShortFrame, State.takesEvents_iff.mpr h, hc, State.endHeldFrame, State.setLink]

theorem exec_commandOfFrame_ignored (h : ¬ TakesEvents s) (bytes : List Byte) (extra : Fin 8) :
    exec (commandOfFrame bytes extra) s = .next s := by
  cases bytes with
  | nil => exact congrArg _ (takeShortFrame_ignored h _)
  | cons code rest => exact (exec_commandOfCode ..).trans (congrArg _ (State.takeFrame_ignored h ..))

/-- R163: the rise of a CS_N that was low when the part left reset takes no command, whatever was sent. -/
theorem exec_commandOfFrame_held (h : TakesEvents s) (hc : s.link.csHeldLow = true) (bytes : List Byte) (extra : Fin 8) :
    exec (commandOfFrame bytes extra) s =
      .next { s with link := { s.link with csHeldLow := false, sdoDriven := false } } := by
  cases bytes with
  | nil => exact congrArg _ (takeShortFrame_held h hc _)
  | cons code rest => exact (exec_commandOfCode ..).trans (congrArg _ (State.takeFrame_held h hc ..))

/-- Settles O8, by the state of the link. -/
theorem framesWithoutCommandKeepTheBuffer : Obligations.FramesWithoutCommandKeepTheBuffer := by
  unfold Obligations.FramesWithoutCommandKeepTheBuffer
  refine ⟨fun s bits h => exec_frameWithoutCompleteByte h bits, fun c bytes extra s hw hf => ?_⟩
  rw [← commandOfFrame_of_frameOfCommand hw hf]
  refine ⟨fun h => exec_commandOfFrame_ignored ?_ bytes extra, fun h hc => exec_commandOfFrame_held h hc bytes extra⟩
  rintro ⟨hr, hk⟩
  simp [hr, hk] at h

/-! ## The frame receiver (R162, R168) -/

variable {l : ControlLink} {sdi : Bool} {b : Byte}

/-- R162: the first bit taken is the most significant. -/
theorem byteOfBits_of_getElem? {bits : List Bool} (hl : bits.length = 8)
    (h : ∀ j, j < 8 → bits[j]? = some (b.getLsbD (7 - j))) : byteOfBits bits = b := by
  have he : bits = bitsOfByte b := by
    refine List.ext_getElem? fun j => ?_
    rcases Nat.lt_or_ge j 8 with hj | hj
    · simp [h j hj, bitsOfByte, hj]
    · rw [List.getElem?_eq_none (by omega), List.getElem?_eq_none (by simpa [bitsOfByte] using hj)]
  rw [he, byteOfBits_bitsOfByte]

theorem sckRise_partial (h : l.selected = true) (hl : l.partialBits.length < 7) (sdi : Bool) :
    l.sckRise sdi = { l with
      bitCount := l.bitCount + 1, partialBits := l.partialBits ++ [sdi], sdo := l.sdo ++ [l.sdoLevel] } := by
  have h8 : ¬ (l.partialBits ++ [sdi]).length = 8 := by
    rw [List.length_append, List.length_singleton]
    omega
  unfold ControlLink.sckRise
  rw [if_neg (by simp [h]), if_neg h8]

theorem sckRise_complete (h : l.selected = true) (hl : l.partialBits.length = 7)
    (hb : ∀ j, j < 8 → (l.partialBits ++ [sdi])[j]? = some (b.getLsbD (7 - j))) :
    l.sckRise sdi = { l with
      bitCount := l.bitCount + 1, received := keepByte l.received b, partialBits := [], sdo := l.sdo ++ [l.sdoLevel] } := by
  have h8 : (l.partialBits ++ [sdi]).length = 8 := by simp [hl]
  unfold ControlLink.sckRise
  rw [if_neg (by simp [h]), if_pos h8, byteOfBits_of_getElem? h8 hb]

/-- R162: a byte is kept unless the receiver holds all that the command needs. -/
theorem keepByte_cons {rest : List Byte} {n : Nat} (hn : frameLength code = some n) (b : Byte) :
    keepByte (code :: rest) b = if rest.length + 1 < n then code :: rest ++ [b] else code :: rest := by
  simp [keepByte, hn]

/-- R168: bit `j` of byte `k` of what is shifted out is that of the result buffer. -/
theorem shiftOut_bit (buffer : List Byte) {n k j : Nat} (hj : j < 8) (hn : 8 * k + j < n) :
    (shiftOut buffer n)[8 * k + j]? = some ((buffer.getD k 0x00).getLsbD (7 - j)) := by
  rw [shiftOut_getElem? buffer hn, Nat.mul_add_div (by decide), Nat.mul_add_mod, Nat.div_eq_of_lt hj, Nat.mod_eq_of_lt hj]
  rfl

/-- R162, R168: what every frame taken leaves in the control link, whatever its command did. -/
theorem exec_commandOfFrame_ready (h : LinkReady s) (bytes : List Byte) (extra : Fin 8) :
    ∃ t, exec (commandOfFrame bytes extra) s = .next t ∧ t.link.selected = false ∧
      t.link.bitCount = 8 * bytes.length + extra.val ∧
      t.link.sdo = shiftOut s.link.result (8 * bytes.length + extra.val) ∧
      (bytes = [] → t.link.result = s.link.result) := by
  cases bytes with
  | nil => exact ⟨_, exec_frameWithoutCompleteByte h extra, rfl, by simp, by simp, fun _ => rfl⟩
  | cons code rest =>
    obtain ⟨t, result, he⟩ := exec_commandOfCode_ready h code ⟨rest, extra⟩
    exact ⟨_, he, rfl, rfl, rfl, fun hb => nomatch hb⟩

/-- Settles O6: the receiver edge by edge, and then the bits that every frame shifts out. -/
theorem everyFrameShiftsOutThePreviousResult : Obligations.EveryFrameShiftsOutThePreviousResult := by
  unfold Obligations.EveryFrameShiftsOutThePreviousResult
  refine ⟨fun l h => if_neg (by simp [h]), fun l sdi h => if_pos (by simp [h]),
    fun l sdi h hl => ⟨_, sckRise_partial h hl sdi⟩,
    fun l sdi b h hl hb => ⟨_, _, sckRise_complete h hl hb, fun hr => ?_, fun code rest n hr hn => ?_⟩,
    fun c bytes extra s h hw hf => ?_⟩
  · rw [hr]
    rfl
  · rw [hr]
    exact keepByte_cons hn b
  · obtain ⟨t, he, hs, hcount, hsdo, hr⟩ := exec_commandOfFrame_ready h bytes extra
    rw [commandOfFrame_of_frameOfCommand hw hf] at he
    refine ⟨t, he, hs, hcount, by rw [hsdo, shiftOut_length], fun k j hj hn => ?_, hr⟩
    rw [hsdo, shiftOut_bit _ hj hn]

end Sys2Proof.Machine
end

section
/-!
The bytes that a command does not look at: those beyond its frame length, and the index byte of a command that has no use for
it (R165, R173).
-/
namespace Sys2Proof.Machine

open Safety

variable {s : State} {code : Byte} {f g : Frame} {k m n : Nat}

/-! ## Frames with the same operands (R182) -/

/-- The frames carry the same bytes from byte `m` to before byte `n`. -/
def SameBytes (m n : Nat) (f g : Frame) : Prop := ∀ k, m ≤ k → k < n → f.byte k = g.byte k

namespace SameBytes

theorem byte (h : SameBytes m n f g) (hm : m ≤ k) (hn : k < n) : f.byte k = g.byte k := h k hm hn

theorem mono {m' : Nat} (h : SameBytes m n f g) (hm : m ≤ m') : SameBytes m' n f g := fun k hk => h k (hm.trans hk)

theorem half (h : SameBytes m n f g) (hm : m ≤ k) (hn : k + 1 < n) : f.half k = g.half k := by
  rw [Frame.half, Frame.half, h k hm (by omega), h (k + 1) (by omega) hn]

theorem word (h : SameBytes m n f g) (hm : m ≤ k) (hn : k + 3 < n) : f.word k = g.word k := by
  rw [Frame.word, Frame.word, h k hm (by omega), h (k + 1) (by omega) (by omega), h (k + 2) (by omega) (by omega),
    h (k + 3) (by omega) hn]

theorem flag? (h : SameBytes m n f g) (hm : m ≤ k) (hn : k < n) : f.flag? k = g.flag? k := by
  rw [Frame.flag?, Frame.flag?, h k hm hn]

theorem number? (h : SameBytes m n f g) (hm : m ≤ k) (hn : k < n) (i : Nat) : f.number? k i = g.number? k i := by
  simp only [Frame.number?, h k hm hn]

theorem withIndex (h : SameBytes 1 n f g) (hn : 1 < n) {i : Nat} {act act' : State → Fin i → Reply} (ha : act = act') :
    (fun s => withIndex i f s (act s)) = fun s => withIndex i g s (act' s) := by
  have hi : f.index? i = g.index? i := h.number? le_rfl hn i
  simp only [Machine.withIndex, hi, ha]

theorem groupConfigOf (h : SameBytes 1 11 f g) : groupConfigOf f = groupConfigOf g := by
  simp (disch := decide) only [Machine.groupConfigOf, h.byte, h.half]

theorem launchConditionOf (h : SameBytes 1 4 f g) : launchConditionOf f = launchConditionOf g := by
  simp (disch := decide) only [Machine.launchConditionOf, h.byte, h.number?]

theorem windowOf (h : SameBytes 1 13 f g) : windowOf f = windowOf g := by
  simp (disch := decide) only [Machine.windowOf, h.byte, h.word, h.number?]

theorem launchPointOf (h : SameBytes 1 10 f g) : launchPointOf f = launchPointOf g := by
  simp (disch := decide) only [Machine.launchPointOf, h.half, h.flag?]

theorem irqConfigOf (h : SameBytes 2 5 f g) : irqConfigOf f = irqConfigOf g := by
  simp (disch := decide) only [Machine.irqConfigOf, h.byte, h.flag?]

theorem timebaseOf (h : SameBytes 2 9 f g) : timebaseOf f = timebaseOf g := by
  funext t
  simp (disch := decide) only [Machine.timebaseOf, h.byte, h.half]

end SameBytes

/-- Two frames that agree in their first bytes have the same operands. -/
theorem sameBytes_of_take (h : f.bytes.take (n - 1) = g.bytes.take (n - 1)) : SameBytes 1 n f g := by
  intro k hk hn
  have hlt : k - 1 < n - 1 := by omega
  unfold Frame.byte
  rw [List.getD_eq_getElem?_getD, List.getD_eq_getElem?_getD, ← List.getElem?_take_of_lt hlt, h,
    List.getElem?_take_of_lt hlt]

theorem sameBytes_of_tail (b c : Byte) (rest : List Byte) (extra : Fin 8) (n : Nat) :
    SameBytes 2 n ⟨b :: rest, extra⟩ ⟨c :: rest, extra⟩ := by
  intro k hk _
  obtain ⟨j, rfl⟩ := Nat.exists_eq_add_of_le' hk
  rfl

/-! ## What a command looks at (R165, R173) -/

/-- R173: the first byte after the code that the command looks at. Nine commands do not look at their index byte. -/
def firstOperand (code : Byte) : Nat :=
  match code.toNat with
  | 0x00 | 0x01 | 0x0A | 0x30 | 0x31 | 0x32 | 0x38 | 0x40 | 0x41 => 2
  | _ => 1

theorem one_le_firstOperand (code : Byte) : 1 ≤ firstOperand code := by
  unfold firstOperand
  split <;> decide

theorem operands_of_unindexed (h : code ∈ ([0x00, 0x01, 0x0A, 0x30, 0x31, 0x32, 0x38, 0x40, 0x41] : List Byte)) :
    firstOperand code = 2 ∧ ∃ n, frameLength code = some n := by
  fin_cases h <;> exact ⟨rfl, _, rfl⟩

/-- R183: the command looks at no byte after its code, at its index alone, or at further operands. -/
theorem operands_cases (h : code ∈ commandCodes) :
    code ∈ ([0x00, 0x01, 0x0A, 0x31, 0x40] : List Byte) ∨
      code ∈ ([0x11, 0x14, 0x15, 0x16, 0x17, 0x21, 0x22, 0x29] : List Byte) ∨
      code ∈ ([0x10, 0x12, 0x13, 0x18, 0x20, 0x28, 0x30, 0x32, 0x38, 0x41] : List Byte) := by
  fin_cases h <;> decide

/-- R165, R173: a command looks at no byte before its first operand and at none beyond its frame length. -/
theorem commandReply_congr (hn : frameLength code = some n) (h : SameBytes (firstOperand code) n f g) :
    commandReply code f = commandReply code g := by
  rcases operands_cases ((codeNamesCommand_iff code).mp (codeNamesCommand_of_some hn)) with hc | hc | hc
  · fin_cases hc <;> simp [commandReply]
  · fin_cases hc <;> cases hn <;> exact h.withIndex (by decide) rfl
  · fin_cases hc <;> cases hn
    · exact h.withIndex (by decide) (by unfold groupConfigReply; rw [h.groupConfigOf])
    · refine h.withIndex (by decide) ?_
      unfold groupCloseReply
      rw [h.flag? (by decide) (by decide), h.word (by decide) (by decide)]
    · exact h.withIndex (by decide) (by unfold groupArmReply; rw [h.launchConditionOf])
    · exact h.withIndex (by decide) (by rw [h.half (by decide) (by decide)])
    · exact h.withIndex (by decide) (by unfold windowSetReply; rw [h.windowOf])
    · exact h.withIndex (by decide) (by unfold pointSetReply; rw [h.launchPointOf])
    · show timebaseConfigReply f = timebaseConfigReply g
      unfold timebaseConfigReply
      rw [h.timebaseOf]
    · show (fun s : State => accept (s.setTimebase { s.timebase with pendingLoad := some (f.half 2) })) = _
      rw [h.half (by decide) (by decide)]
      rfl
    · exact congrArg (fun x : Half => portConfigReply x.toNat) (h.half (by decide) (by decide))
    · show irqConfigReply f = irqConfigReply g
      unfold irqConfigReply
      rw [h.irqConfigOf]

/-- R166: two frames of one command that are both too short for it, or both long enough, and that carry the same operands,
are both ignored, or both leave the same result in the link of the same state. -/
theorem exec_commandOfCode_congr (hs : s.link.selected = false) (hn : frameLength code = some n)
    (h : SameBytes (firstOperand code) n f g) (hl : f.length < n ↔ g.length < n) :
    (∃ t, exec (commandOfCode code f) s = .next t ∧ exec (commandOfCode code g) s = .next t) ∨
      ∃ t result, exec (commandOfCode code f) s = .next (afterFrame s t code f result) ∧
        exec (commandOfCode code g) s = .next (afterFrame s t code g result) := by
  have hd : (frameLength code).getD 1 = n := by rw [hn]; rfl
  rcases linkReady_cases hs with ht | ⟨ht, hc⟩ | hr
  · have ignored (x : Frame) := exec_commandOfFrame_ignored ht (code :: x.bytes) x.extraBits
    exact .inl ⟨s, ignored f, ignored g⟩
  · have held (x : Frame) := exec_commandOfFrame_held ht hc (code :: x.bytes) x.extraBits
    exact .inl ⟨_, held f, held g⟩
  · rcases Nat.lt_or_ge f.length n with hf | hf
    · exact .inr ⟨s, _, exec_commandOfCode_short hr (hd ▸ hf), exec_commandOfCode_short hr (hd ▸ hl.mp hf)⟩
    · have hg : n ≤ g.length := Nat.not_lt.mp (mt hl.mpr (Nat.not_lt.mpr hf))
      refine .inr ⟨_, _, exec_commandOfCode_long hr (hd ▸ hf), ?_⟩
      rw [commandReply_congr hn h]
      exact exec_commandOfCode_long hr (hd ▸ hg)

/-- Settles O9: the operands of the two frames are the same, and so is what the receiver keeps of the first two. -/
theorem bytesThatAreNotLookedAt : Obligations.BytesThatAreNotLookedAt := by
  unfold Obligations.BytesThatAreNotLookedAt
  refine ⟨fun s code f g n hs hn hf hg h => ?_, fun s code b c rest extra hs hc => ?_⟩
  · have ho : SameBytes (firstOperand code) n f g := (sameBytes_of_take h).mono (one_le_firstOperand code)
    have hk : (code :: f.bytes).take ((frameLength code).getD 1) = (code :: g.bytes).take ((frameLength code).getD 1) := by
      rw [hn, Option.getD_some]
      cases n with
      | zero => rfl
      | succ n => exact congrArg (code :: ·) h
    obtain ⟨t, hf, hg⟩ | ⟨t, result, hf, hg⟩ := exec_commandOfCode_congr hs hn ho (by omega)
    · exact ⟨t, t, hf, hg, rfl⟩
    · refine ⟨_, _, hf, hg, ?_⟩
      dsimp only
      rw [hk]
  · obtain ⟨hfirst, n, hn⟩ := operands_of_unindexed hc
    have ho : SameBytes (firstOperand code) n ⟨b :: rest, extra⟩ ⟨c :: rest, extra⟩ := by
      rw [hfirst]
      exact sameBytes_of_tail b c rest extra n
    obtain ⟨t, hf, hg⟩ | ⟨t, result, hf, hg⟩ := exec_commandOfCode_congr hs hn ho .rfl
    · exact ⟨t, t, hf, hg, rfl⟩
    · exact ⟨_, _, hf, hg, rfl⟩

end Sys2Proof.Machine
end

section
/-!
The commands NOP and BRIDGE_STATUS (R174, R175, R189).
-/
namespace Sys2Proof.Machine

open Safety

/-- R189: the eight places of the launch queue, those beyond its length at 0xFF. -/
theorem launchPlaces_eq (q : List GroupId) :
    (List.range 8).map (launchPlace q) =
      ((q.map fun g : GroupId => BitVec.ofNat 8 g.val) ++ List.replicate 8 0xFF).take 8 := by
  refine List.ext_getElem? fun i => ?_
  rcases Nat.lt_or_ge i 8 with hi | hi
  · rw [List.getElem?_take_of_lt hi, List.getElem?_map, List.getElem?_range hi]
    rcases Nat.lt_or_ge i q.length with hq | hq
    · rw [List.getElem?_append_left (by simpa using hq)]
      simp [launchPlace, byteOf, hq]
    · rw [List.getElem?_append_right (by simpa using hq), List.getElem?_replicate_of_lt (by rw [List.length_map]; omega)]
      simp [launchPlace, hq]
  · rw [List.getElem?_eq_none (by simpa using hi), List.getElem?_eq_none (by simp; omega)]

theorem abandonedCount_eq (p : MemoryPort) : p.abandonedCount = p.tags.toList.countP fun x => x = .abandoned := by
  have ht : p.tags.toList = allTags.map fun t => p.tags[t] := by
    refine List.ext_getElem (by simp [allTags]) fun i h1 h2 => ?_
    simp [allTags] at h2
    interval_cases i <;> rfl
  have ha : TagState.isAbandoned = fun x => decide (x = .abandoned) := by
    funext x
    cases x <;> rfl
  rw [ht, List.countP_map, MemoryPort.abandonedCount, ha]
  rfl

theorem flagByte_isStuck (p : MemoryPort) :
    flagByte p.isStuck = yesNo (decide (∀ t : TagId, p.tags[t] = .abandoned)) := by
  rw [← Bool.decide_coe p.isStuck, decide_eq_decide.mpr (isStuck_iff p)]
  rfl

theorem bridgeStatusBytes_eq (s : State) : s.bridgeStatusBytes =
    bigEndian16 s.free ++
      [(s.group 0).state.code, (s.group 1).state.code, (s.group 2).state.code, (s.group 3).state.code,
        (s.group 4).state.code, (s.group 5).state.code, (s.group 6).state.code, (s.group 7).state.code,
        s.engine.state.code, BitVec.ofNat 8 s.launchQueue.length] ++
      (((s.launchQueue.map fun g : GroupId => BitVec.ofNat 8 g.val) ++ List.replicate 8 0xFF).take 8) ++
      [BitVec.ofNat 8 s.completions.records.length,
        BitVec.ofNat 8 (s.port.tags.toList.countP fun x => x = .abandoned),
        yesNo (decide (∀ t : TagId, s.tag t = .abandoned)), s.timebase.lock.code] := by
  unfold State.bridgeStatusBytes
  rw [countBytes_eq, launchPlaces_eq, flagByte_isStuck, abandonedCount_eq]
  rfl

/-- Settles O12: neither command changes anything. -/
theorem nopAndBridgeStatus : Obligations.NopAndBridgeStatus := by
  unfold Obligations.NopAndBridgeStatus
  refine ⟨fun s f h hl => next_takeFrame_same h (by exact hl) rfl,
    fun s f h hl => next_takeFrame_same h (by exact hl) ?_⟩
  rw [report, bridgeStatusBytes_eq]
  rfl

end Sys2Proof.Machine
end

section
/-!
The bytes of the statuses and named values (R184 to R189).
-/
namespace Sys2Proof.Machine

/-- Settles O11, code by code: those with an argument (a requester, a point, a predecessor) for every argument, and the others
by the definition of the code. -/
theorem codesOfTheNamedValues : Obligations.CodesOfTheNamedValues := by
  unfold Obligations.CodesOfTheNamedValues
  exact ⟨rfl, rfl, rfl, fun _requester => rfl, rfl, rfl, rfl, rfl, fun _point => rfl, fun _predecessor => rfl, rfl, rfl, rfl,
    rfl, rfl, rfl, rfl⟩

end Sys2Proof.Machine
end

section
/-!
What one step is made of: the moves of the part, each with what is known when it is made, and chains of them. What every step keeps
is then shown move by move.
-/
namespace Sys2Proof.Machine

open Safety

/-! ## The moves -/

/-- How far an event has come. -/
structure Stage where
  /-- the tag whose request has been ended while the tag itself is not yet free (R101, log 19) -/
  ending : Option TagId := none
  /-- the transaction that is being judged, by its name, and the number of its beats decided so far (R54) -/
  judging : Option (Nat × Nat) := none
  /-- a grant may be due before the event ends (R98) -/
  granting : Bool := false

/-- R85, R91: the release context once the memory port has handed back the write in hand: no write is left of a release that is
DRAINING or STOPPING. -/
def Engine.writeGone (e : Engine) : Engine :=
  match e.state, e.group with
  | .draining, some _ => { e with write := .none, copy := none }
  | .stopping, some _ => { e with write := .none, copy := none }
  | _, _ => e

/-- The moves that a step is made of. A condition behind `c` is known when `c` is; `c` stands for the part being coordinated when
the step begins. -/
inductive Move (c : Prop) : Stage → State → Stage → State → Prop
  /-- what no claim about the store, the memory port, the queues and the ranges speaks of -/
  | aside {a : Stage} {s : State} (queue : List GroupId) (fence : Option GroupId) (link : ControlLink) (index : Nat)
      (clk inReset level : Bool) (missed : MissedEdges) (waiting : List Instr) :
      Move c a s a { s with
        launchQueue := queue, fencedOn := fence, link := link, freeIndex := index, clkRuns := clk, inReset := inReset
        trigLevel := level, missedEdges := missed, pending := waiting }
  /-- a group changes its state, its flags or its counts, and keeps its configuration and its list -/
  | regroup {a : Stage} {s : State} (g : GroupId) (r : GroupRecord) (config : r.config = (s.group g).config)
      (entries : r.entries = (s.group g).entries) (idle : r.state = .idle → (s.group g).state = .idle) :
      Move c a s a (s.setGroup g r)
  /-- an IDLE group is configured (R11) -/
  | configure {a : Stage} {s : State} (g : GroupId) (config : GroupConfig) (idle : (s.group g).state = .idle)
      (cap : 1 ≤ config.cap ∧ config.cap ≤ 1024) : Move c a s a (s.setGroup g { s.group g with config := config })
  /-- a beat of a waiting transaction is offered to the store for an OPEN group (R35, R36) -/
  | add {a : Stage} {s : State} (g : GroupId) (address data : Word) (mask : Mask) (opened : (s.group g).state = .opened)
      (selects : mask ≠ 0) (beat : ∃ u ∈ s.ingress, ∃ k, address = u.request.beatAddress k)
      (held : c → s.engine.group = some g → s.engine.cause = some .softReset) :
      Move c a s a (s.addRequest g address data mask).1
  /-- the entry at position 0 is freed while no release write is in hand (R42) -/
  | freeHead {a : Stage} {s : State} (g : GroupId) (write : c → s.engine.write = .none) : Move c a s a (s.freeHead g)
  /-- a group is emptied from which no release write is in hand (R8, R45) -/
  | empty {a : Stage} {s : State} (g : GroupId)
      (held : c → s.engine.write ≠ .none → s.engine.cause ≠ some .softReset → s.engine.group ≠ some g) :
      Move c a s a (s.emptyGroup g)
  /-- the completion queue and the interrupt line change and stay in their ranges (R152, R158) -/
  | record {a : Stage} {s : State} (irq : IrqConfig) (q : CompletionQueue) (counts : List ReportedCounts)
      (range : CompletionsInRange s → CompletionsInRange ((s.setCompletions irq q).setReported counts)) :
      Move c a s a ((s.setCompletions irq q).setReported counts)
  | window {a : Stage} {s : State} (w : Fin 16) (r : Window)
      (range : WindowsInRange s → r.base.toNat % 64 = 0 ∧ r.limit.toNat % 64 = 0 ∧ r.base.toNat ≤ r.limit.toNat) :
      Move c a s a (s.setWindow w r)
  | point {a : Stage} {s : State} (p : Fin 8) (r : LaunchPoint) (range : r.lineValue ≤ 4095) : Move c a s a (s.setPoint p r)
  | timebase {a : Stage} {s : State} (b : Timebase) (range : TimebaseInRange s.timebase → TimebaseInRange b) :
      Move c a s a (s.setTimebase b)
  | timeout {a : Stage} {s : State} (n : Nat) (range : 256 ≤ n ∧ n ≤ 65535) :
      Move c a s a (s.setPort { s.port with timeout := n })
  | softReset {s : State} (context : c → ContextWellFormed s.engine) : Move c {} s {} s.softReset
  | enterReset {s : State} : Move c {} s {} s.enterReset
  /-- the response timers advance (R99) -/
  | timers {a : Stage} {s : State} : Move c a s a s.advanceTimers
  /-- the release context changes, with no write in hand before or after but one that waits and is withdrawn (R81, R85, R89, R90).
  DRAINING is entered with the settle count of the group at 0 (R83). -/
  | context {a : Stage} {s : State} (e : Engine) (write : c → e.write = .none) (copy : c → e.copy = none)
      (issued : c → s.engine.write ≠ .issued)
      (draining : e.state = .draining → (s.engine.state = .draining ∧ e.group = s.engine.group) ∨
        ∀ g, e.group = some g → s.settleCount g = 0) : Move c a s a (s.setEngine e)
  /-- the next release write is asked for (R84) -/
  | request {a : Stage} {s : State} (e : Entry) (next : s.nextEntry = some e) (write : c → s.engine.write = .none) :
      Move c a s { a with granting := true } (s.requestWrite e)
  /-- a release with its write ISSUED is stopped by a discard (R90) -/
  | stop {a : Stage} {s : State} (cause : c → s.engine.cause ≠ some .softReset) :
      Move c a s a (s.setEngine { s.engine with state := .stopping, cause := some .discard })
  /-- a pass-through request arrives that does not carry the mark of the group being written (R63, R77) -/
  | handOver {a : Stage} {s : State} (r : PassRequest)
      (fence : c → ∀ g, r.mark = some g → s.engine.state = .draining → s.engine.group ≠ some g) : Move c a s a (s.handOver r)
  | grant {a : Stage} {s : State} : Move c a s a s.grantOne
  | mayGrant {a : Stage} {s : State} : Move c a s { a with granting := true } s
  /-- no grant is due any more -/
  | granted {a : Stage} {s : State} (due : c → NoGrantDue s) : Move c a s { a with granting := false } s
  /-- a pass-through request ends (R77) -/
  | passEnds {a : Stage} {s : State} (t : TagId) (r : PassRequest) (n m : Nat) (answer : Answer) (data : Word)
      (fresh : a.ending = none) (tag : s.tag t = .busy (.passThrough r) n m) :
      Move c a s { a with ending := some t } (s.endPass r answer data)
  /-- a release write ends (R85, R91) -/
  | writeEnds {a : Stage} {s : State} (t : TagId) (e : Entry) (n m : Nat) (fresh : a.ending = none)
      (tag : s.tag t = .busy (.release e) n m) (context : c → ContextWellFormed s.engine) :
      Move c a s { a with ending := some t } (s.setEngine s.engine.writeGone)
  /-- a tag becomes FREE whose request has ended or been abandoned (R101) -/
  | tagFreed {a : Stage} {s : State} (t : TagId) (ended : a.ending = some t ∨ a.ending = none ∧ s.tag t = .abandoned) :
      Move c a s { a with ending := none, granting := true } (s.setTag t .free)
  /-- a tag becomes ABANDONED whose request has ended (R100) -/
  | tagAbandoned {a : Stage} {s : State} (t : TagId) (ended : a.ending = some t) :
      Move c a s { a with ending := none } (s.setTag t .abandoned)
  | accept {a : Stage} {s : State} (x : Transaction) (well : x.wellFormed = true) (fresh : a.judging = none) :
      Move c a s a (s.acceptTransaction x)
  | respond {a : Stage} {s : State} (fresh : a.judging = none) : Move c a s a s.respond
  /-- the head crosses a 1 KiB block (R55) -/
  | headFails {a : Stage} {s : State} (u : Ingress) (fresh : a.judging = none) (head : s.head? = some u) :
      Move c a s a (s.modifyIngress u.id Ingress.failWhole)
  /-- the judgement of the head begins (R54) -/
  | judgingBegins {a : Stage} {s : State} (u : Ingress) (fresh : a.judging = none) (head : s.head? = some u) :
      Move c a s { a with judging := some (u.id, 0) } s
  /-- a beat of the transaction that is being judged has been decided (R54) -/
  | beatDecided {a : Stage} {s : State} (id k : Nat) (result : BeatResult) (judging : a.judging = some (id, k)) :
      Move c a s { a with judging := some (id, k + 1) } (s.modifyIngress id (Ingress.decideBeat result))
  /-- all beats of the transaction have been decided (R54) -/
  | judgingEnds {a : Stage} {s : State} (u : Ingress) (member : u ∈ s.ingress)
      (judging : a.judging = some (u.id, u.request.beatCount)) :
      Move c a s { a with judging := none } (s.modifyIngress u.id Ingress.dispatch)

/-- A chain of moves. -/
abbrev Moves (c : Prop) (a : Stage) (s : State) (b : Stage) (t : State) : Prop :=
  Relation.ReflTransGen (fun x y : Stage × State => Move c x.1 x.2 y.1 y.2) (a, s) (b, t)

section

variable {c : Prop} {a b d : Stage} {s t u : State}

theorem Moves.refl (a : Stage) (s : State) : Moves c a s a s := Relation.ReflTransGen.refl

theorem Move.one (h : Move c a s b t) : Moves c a s b t := Relation.ReflTransGen.single h

theorem Moves.trans (h : Moves c a s b t) (k : Moves c b t d u) : Moves c a s d u := Relation.ReflTransGen.trans h k

/-- What every move keeps holds after a chain of moves. -/
theorem Moves.keeps {P : Stage → State → Prop} (hP : ∀ {a s b t}, Move c a s b t → P a s → P b t) (h : Moves c a s b t)
    (hs : P a s) : P b t := by
  have along {x y : Stage × State} (h : Relation.ReflTransGen (fun x y : Stage × State => Move c x.1 x.2 y.1 y.2) x y)
      (hx : P x.1 x.2) : P y.1 y.2 := by
    induction h with
    | refl => exact hx
    | tail _ hm ih => exact hP hm ih
  exact along h hs

/-- A fold of operations each of which is a chain of moves, with what holds of the state along the fold. -/
theorem Moves.foldl {α : Type} {f : State → α → State} {Q : State → Prop} (h : ∀ s x, Q s → Moves c a s a (f s x))
    (hQ : ∀ s x, Q s → Q (f s x)) (l : List α) {s : State} (hs : Q s) : Moves c a s a (l.foldl f s) := by
  induction l generalizing s with
  | nil => exact .refl a s
  | cons x l ih => exact (h s x hs).trans (ih (hQ s x hs))

end

end Sys2Proof.Machine
end

section
/-!
The operations of the group controller, the store and the memory port as chains of moves.
-/
namespace Sys2Proof.Machine

open Safety

variable {c : Prop} {a b : Stage} {s t u : State} {g : GroupId}

/-! ## The completion queue (R152 to R158) -/

theorem completionsInRange_offer {kind : RecordKind} (hk : kind ≠ .released) (group : Option GroupId)
    (report : Option ReleaseReport) (flags : RecordFlags) (h : CompletionsInRange s) :
    CompletionsInRange (s.offer kind group report flags) := by
  obtain ⟨hr, hl, hu, hn, ht, hi⟩ := h
  rcases Nat.lt_or_ge s.completions.records.length 32 with hroom | hfull
  · have hq := CompletionQueue.offer_of_room hroom ⟨kind, group, report, s.timebase.frame, s.timebase.line, flags, 0⟩
    refine ⟨?_, ?_, ?_, ?_, ht, rfl⟩ <;> simp only [State.offer, State.setCompletions, hq]
    · simpa using hroom
    · exact Nat.zero_le _
    · simp [hu, List.countP_append]
    · simp [hn, hk, List.countP_append]
  · have hq := CompletionQueue.offer_of_full hfull ⟨kind, group, report, s.timebase.frame, s.timebase.line, flags, 0⟩
    refine ⟨?_, ?_, ?_, ?_, ht, rfl⟩ <;> simp only [State.offer, State.setCompletions, hq]
    · exact hr
    · omega
    · exact hu
    · exact hn

/-- R27, log 27: a RELEASED record enters the queue together with the counts reported with it. -/
theorem completionsInRange_offerReleased (g : GroupId) (h : CompletionsInRange s) : CompletionsInRange (s.offerReleased g) := by
  obtain ⟨hr, hl, hu, hn, ht, hi⟩ := h
  rcases offerReleased_cases s g with ⟨hroom, e⟩ | ⟨hfull, e⟩ <;> rw [e]
  · have hq := CompletionQueue.offer_of_room hroom
      ⟨.released, some g, some (s.group g).report, s.timebase.frame, s.timebase.line, (s.group g).recordFlags, 0⟩
    refine ⟨?_, ?_, ?_, ?_, ht, rfl⟩ <;> simp only [State.offer, State.setCompletions, State.setReported, hq]
    · simpa using hroom
    · exact Nat.zero_le _
    · simp [hu, List.countP_append]
    · simp [hn, List.countP_append]
  · have hq := CompletionQueue.offer_of_full hfull
      ⟨.released, some g, some (s.group g).report, s.timebase.frame, s.timebase.line, (s.group g).recordFlags, 0⟩
    refine ⟨?_, ?_, ?_, ?_, ht, rfl⟩ <;> simp only [State.offer, State.setCompletions, hq]
    · exact hr
    · omega
    · exact hu
    · exact hn

theorem move_offer {kind : RecordKind} (hk : kind ≠ .released) (group : Option GroupId) (report : Option ReleaseReport)
    (flags : RecordFlags) : Move c a s a (s.offer kind group report flags) :=
  .record _ _ s.reported (completionsInRange_offer hk group report flags)

theorem move_offerPlain {kind : RecordKind} (hk : kind ≠ .released) (group : Option GroupId) :
    Move c a s a (s.offerPlain kind group) := move_offer hk ..

theorem move_offerReleased (g : GroupId) : Move c a s a (s.offerReleased g) :=
  .record _ _ _ (completionsInRange_offerReleased g)

theorem moves_noteStuck : Moves c a s a s.noteStuck := by
  unfold State.noteStuck
  split
  · exact (move_offerPlain (by simp) _).one
  · exact .refl a s

/-! ## Notices and the breaking of successors (R9, R24, R25) -/

/-- A group changes its state, its flags or its counts, by a change that keeps its configuration and its list. -/
theorem move_modifyGroup {change : GroupRecord → GroupRecord} (config : ∀ r, (change r).config = r.config)
    (entries : ∀ r, (change r).entries = r.entries) (idle : ∀ r, (change r).state = .idle → r.state = .idle) :
    Move c a s a (s.modifyGroup g change) := .regroup g _ (config _) (entries _) (idle _)

theorem move_setLaunchQueue (q : List GroupId) : Move c a s a (s.setLaunchQueue q) := .aside ..

theorem move_setFence (f : Option GroupId) : Move c a s a (s.setFence f) := .aside ..

theorem move_useFree : Move c a s a s.useFree := .aside ..

theorem move_setLink (l : ControlLink) : Move c a s a (s.setLink l) := .aside ..

theorem moves_makePending (g : GroupId) : Moves c a s a (s.makePending g) :=
  (move_modifyGroup (by intro _; rfl) (by intro _; rfl) (by simp [GroupRecord.toPending])).one.trans
    (move_setLaunchQueue _).one

theorem moves_breakSuccessors (g : GroupId) : Moves c a s a (s.breakSuccessors g) := by
  refine Moves.foldl (Q := fun _ => True) (fun s k _ => ?_) (fun _ _ h => h) _ trivial
  exact (move_modifyGroup (by intro _; rfl) (by intro _; rfl) (by simp [GroupRecord.toClosed])).one.trans
    (move_offerPlain (by simp) _).one

theorem moves_firingNotice (g : GroupId) : Moves c a s a (s.firingNotice g) := by
  have missed : Moves c a s a (s.modifyGroup g GroupRecord.missLaunch) :=
    (move_modifyGroup (by intro _; rfl) (by intro _; rfl) (by simp [GroupRecord.missLaunch])).one
  unfold State.firingNotice
  split
  · exact moves_makePending g
  · exact missed
  · exact missed
  all_goals exact .refl a s

theorem moves_fireGroups (gs : List GroupId) : Moves c a s a (s.fireGroups gs) :=
  .foldl (Q := fun _ => True) (fun _ k _ => moves_firingNotice k) (fun _ _ h => h) _ trivial

/-- R80, R89: the group of a release that no SOFT_RESET has stopped is RELEASING. -/
def State.HoldsReleasing (s : State) : Prop :=
  ∀ g, s.engine.group = some g → s.engine.cause ≠ some .softReset → (s.group g).state = .releasing

theorem holdsReleasing_of_agree {late : GroupId → Prop} (h : Agree late s.engine.Holds s) : s.HoldsReleasing :=
  fun g hg hc => (h.releasing g).mpr ⟨hg, hc⟩

theorem coordinated_holdsReleasing (h : Coordinated s) : s.HoldsReleasing := holdsReleasing_of_agree (coordinated_agree h)

/-- R25: a cancelled group is ARMED, so no release of it is in hand. -/
theorem moves_expiryNotice (h : c → s.HoldsReleasing) (g : GroupId) : Moves c a s a (s.expiryNotice g) := by
  rcases expiryNotice_cases s g with ⟨-, e⟩ | ⟨he, -, e⟩ | ⟨he, -, e⟩ <;> rw [e]
  · exact (Move.regroup g _ (by rfl) (by rfl) (by simp)).one.trans (move_setLaunchQueue _).one
  · have armed : (s.group g).state = .armed := ((expired_iff _).mp he).1
    refine ((move_offerPlain (by simp) _).one.trans (Move.empty g fun hc _ hs hg => ?_).one).trans (moves_breakSuccessors g)
    exact absurd (armed.symm.trans (h hc g hg hs)) (by simp)

/-! ## The end of a release in the group controller (R27 to R29) -/

section Outcome

variable (hw : c → s.engine.write = .none)
include hw

theorem moves_emptyGroup (g : GroupId) : Moves c a s a (s.emptyGroup g) :=
  (Move.empty g fun hc hn => absurd (hw hc) hn).one

theorem moves_completeGroup (g : GroupId) (written failed : Nat) : Moves c a s a (s.completeGroup g written failed) := by
  have settle {s : State} (hw : c → s.engine.write = .none) : Moves c a s a (s.settleCompleted g) := by
    unfold State.settleCompleted
    split
    · exact (move_modifyGroup (by intro _; rfl) (by intro _; rfl) (by simp [GroupRecord.rearm])).one
    · exact (move_modifyGroup (by intro _; rfl) (by intro _; rfl) (by simp [GroupRecord.clearFlags])).one.trans
        (moves_emptyGroup (by exact hw) g)
  exact (((move_modifyGroup (by intro _; rfl) (by intro _; rfl) (by simp [GroupRecord.endRelease])).one.trans
    (move_offerReleased g).one).trans (settle (by exact hw))).trans (moves_fireGroups _)

omit hw in
theorem moves_faultGroup (g : GroupId) (written failed : Nat) : Moves c a s a (s.faultGroup g written failed) :=
  (((move_modifyGroup (by intro _; rfl) (by intro _; rfl) (by simp [GroupRecord.endRelease])).one.trans
    (move_offer (by simp) ..).one).trans
    (move_modifyGroup (by intro _; rfl) (by intro _; rfl) (by simp [GroupRecord.toFaulted])).one).trans (moves_breakSuccessors g)

theorem moves_discardGroup (g : GroupId) (written failed : Nat) : Moves c a s a (s.discardGroup g written failed) :=
  (((move_modifyGroup (by intro _; rfl) (by intro _; rfl) (by simp [GroupRecord.endRelease])).one.trans
    (move_offer (by simp) ..).one).trans (moves_emptyGroup (by exact hw) g)).trans (moves_breakSuccessors g)

theorem moves_closeRelease (g : GroupId) (o : ReleaseOutcome) : Moves c a s a (s.closeRelease g o) := by
  unfold State.closeRelease
  split
  · exact moves_completeGroup hw ..
  · exact moves_faultGroup ..
  · exact .refl a s
  · exact moves_discardGroup hw ..
  · exact moves_discardGroup hw ..

omit hw in
theorem closeRelease_engine (s : State) (g : GroupId) (o : ReleaseOutcome) : (s.closeRelease g o).engine = s.engine := by
  unfold State.closeRelease
  split
  · exact (sparesSide_completeGroup ..).engine
  · exact (sparesSide_breakSuccessors ..).engine
  · rfl
  · exact (sparesSide_discardGroup ..).engine
  · exact (sparesSide_discardGroup ..).engine

/-- R89: the group leaves RELEASING and the engine becomes IDLE. -/
theorem moves_finishRelease (o : ReleaseOutcome) : Moves c a s a (s.finishRelease o) := by
  have idle {s : State} (hw : c → s.engine.write = .none) : Moves c a s a (s.setEngine {}) :=
    (Move.context {} (fun _ => rfl) (fun _ => rfl) (fun hc => by simp [hw hc]) (by simp)).one
  unfold State.finishRelease
  split
  · exact idle hw
  · rw [liftFence_eq]
    exact ((moves_closeRelease hw _ o).trans (idle fun hc => by rw [closeRelease_engine]; exact hw hc)).trans
      (move_setFence _).one

end Outcome

/-! ## The grants (R98) -/

/-- R98: after one round of grants of a coordinated part no grant is due. -/
theorem noGrantDue_grantAll (h : s.engine.write = .requested → s.engine.copy.isSome) : NoGrantDue s.grantAll := by
  have kept : s.grantAll.engine.write = .requested → s.grantAll.engine.copy.isSome := by
    rcases (quiet_grantAll s).engine with e | ⟨-, -, e⟩ <;> rw [e]
    · exact h
    · simp
  by_contra hn
  obtain ⟨hf, hw⟩ := not_or.mp hn
  obtain ⟨t, ht⟩ := Option.ne_none_iff_exists'.mp hf
  have fixed := grantOne_grantAll s
  have free := (freeTag?_eq_some_iff _ _).mp ht
  have used : s.grantAll.grantOne.port.tags[t] ≠ .free := by
    cases hside : s.grantAll.winner with
    | none => exact absurd hside hw
    | some side =>
      unfold State.grantOne
      rw [ht, hside]
      cases side with
      | passThrough =>
        obtain ⟨hne, -⟩ := (winner_eq_passThrough_iff _).mp hside
        obtain ⟨r, rest, hr⟩ := List.exists_cons_of_ne_nil hne
        simp [State.issuePass, hr]
      | release =>
        obtain ⟨hq, -⟩ := (winner_eq_release_iff _).mp hside
        obtain ⟨e, he⟩ := Option.isSome_iff_exists.mp (kept hq)
        simp [State.issueRelease, he]
  rw [fixed] at used
  exact used free.1

theorem coordinated_copy (h : Coordinated s) (hw : s.engine.write = .requested) : s.engine.copy.isSome := by
  obtain ⟨-, -, -, hcopy, -⟩ := h.context
  exact hcopy.mpr (by simp [hw])

/-- R98: the grants at the end of an event. -/
theorem moves_grantAll (h : c → Coordinated s) : Moves c a s { a with granting := false } s.grantAll :=
  ((((Move.grant.one.trans Move.grant.one).trans Move.grant.one).trans Move.grant.one).trans
    (Move.granted fun hc => noGrantDue_grantAll fun hw => coordinated_copy (h hc) hw).one :)

end Sys2Proof.Machine
end

section
/-!
The judgement of a head as a chain of moves (R54), and what stays as it is between two of its beats.
-/
namespace Sys2Proof.Machine

open Safety

variable {c : Prop} {a b : Stage} {s t u : State} {g : GroupId}

/-! ## What the beats of a transaction are decided by, and what leaves it as it is -/

/-- From `s` to `t` the windows, the states of the groups and the transactions in the ingress queue have stayed: what the fence
test and the order of the beats rest on (R54, R63). -/
structure LeavesHeads (s t : State) : Prop where
  windows : t.windows = s.windows
  states : ∀ g : GroupId, (t.group g).state = (s.group g).state
  requests : t.ingress.map (fun u => (u.id, u.request)) = s.ingress.map fun u => (u.id, u.request)

namespace LeavesHeads

theorem refl (s : State) : LeavesHeads s s := ⟨rfl, fun _ => rfl, rfl⟩

theorem trans (h : LeavesHeads s t) (k : LeavesHeads t u) : LeavesHeads s u :=
  ⟨k.windows.trans h.windows, fun g => (k.states g).trans (h.states g), k.requests.trans h.requests⟩

theorem of_quiet (h : Quiet s t) (k : Keeps s t) (hi : t.ingress = s.ingress) : LeavesHeads s t :=
  ⟨k.windows, fun g => (h.records g).state, by rw [hi]⟩

/-- A transaction is still in the queue. -/
theorem member (h : LeavesHeads s t) {id : Nat} {x : Transaction} (hs : ∃ u ∈ s.ingress, u.id = id ∧ u.request = x) :
    ∃ u ∈ t.ingress, u.id = id ∧ u.request = x := by
  obtain ⟨u, hu, rfl, rfl⟩ := hs
  have hm : (u.id, u.request) ∈ t.ingress.map fun u => (u.id, u.request) := h.requests ▸ List.mem_map_of_mem hu
  obtain ⟨v, hv, e⟩ := List.mem_map.mp hm
  obtain ⟨hid, hr⟩ := Prod.mk.inj e
  exact ⟨v, hv, hid, hr⟩

theorem fencedBeat (h : LeavesHeads s t) (x : Transaction) (k : Nat) : t.fencedBeat x k = s.fencedBeat x k := by
  have hg (address : Word) : t.governing address = s.governing address := by
    have hw : t.window = s.window := by
      funext w
      unfold State.window
      rw [h.windows]
    unfold State.governing
    rw [hw]
  unfold State.fencedBeat
  rw [hg]
  split
  · rfl
  · rw [h.states]

end LeavesHeads

theorem leaves_setEngine (s : State) (e : Engine) : LeavesHeads s (s.setEngine e) := ⟨rfl, fun _ => rfl, rfl⟩

theorem leaves_setPort (s : State) (p : MemoryPort) : LeavesHeads s (s.setPort p) := ⟨rfl, fun _ => rfl, rfl⟩

theorem leaves_modifyIngress (s : State) (id : Nat) {change : Ingress → Ingress} (h : ∀ u, (change u).id = u.id)
    (hr : ∀ u, (change u).request = u.request) : LeavesHeads s (s.modifyIngress id change) := by
  refine ⟨rfl, fun _ => rfl, ?_⟩
  simp only [State.modifyIngress, State.setIngress, List.map_map]
  refine List.map_congr_left fun u _ => ?_
  simp only [Function.comp_apply]
  split
  · rw [h, hr]
  · rfl

theorem ingress_grantOne (s : State) : s.grantOne.ingress = s.ingress := by
  rcases grantOne_cases s with e | ⟨t, r, rest, -, -, -, e⟩ | ⟨t, x, -, -, -, -, e⟩ <;> rw [e] <;> rfl

theorem ingress_handOver (s : State) (r : PassRequest) : (s.handOver r).ingress = s.ingress := ingress_grantOne _

theorem leaves_grantAll (s : State) : LeavesHeads s s.grantAll :=
  .of_quiet (quiet_grantAll s) (keeps_grantAll s) (by simp only [State.grantAll, ingress_grantOne])

theorem leaves_freeHead (s : State) (g : GroupId) : LeavesHeads s (s.freeHead g) := by
  refine .of_quiet (quiet_freeHead s g) (keeps_freeHead s g) ?_
  rcases freeHead_cases s g with ⟨-, e⟩ | ⟨x, rest, -, e⟩ <;> rw [e]
  rfl

theorem leaves_noteStuck (s : State) : LeavesHeads s s.noteStuck := by
  refine .of_quiet (quiet_noteStuck s) (keeps_noteStuck s) ?_
  unfold State.noteStuck
  split <;> rfl

theorem leaves_endPass (s : State) (r : PassRequest) (answer : Answer) (data : Word) :
    LeavesHeads s (s.endPass r answer data) :=
  (leaves_modifyIngress s r.id (by intro _; rfl) (by intro _; rfl)).trans (leaves_setPort ..)

/-! ### The decision of a beat -/

theorem ingress_addRequest (s : State) (g : GroupId) (address data : Word) (mask : Mask) :
    (s.addRequest g address data mask).1.ingress = s.ingress := by
  rcases addRequest_cases s g address data mask with ⟨-, -, e⟩ | ⟨-, -, e⟩ | ⟨-, -, e⟩ <;> rw [e] <;> rfl

theorem ingress_noteOverflow (s : State) (g : GroupId) : (s.noteOverflow g).ingress = s.ingress := by
  unfold State.noteOverflow
  split <;> rfl

theorem ingress_checkCollision (s : State) (g : GroupId) (address : Word) :
    (s.checkCollision g address).ingress = s.ingress := by
  unfold State.checkCollision
  split <;> rfl

/-- R68, R70: everything a captured beat can do: it is merged or appended, or it overflows, and then it is forwarded or not. -/
theorem captureBeat_cases (s : State) (id k : Nat) (address : Word) (x : WriteBeat) (g : GroupId) :
    (∃ result, s.captureBeat id k address x g = ((s.addRequest g address x.data x.mask).1, result)) ∨
    (∃ result, s.captureBeat id k address x g = (s.noteOverflow g, result)) ∨
    (∃ result, s.captureBeat id k address x g =
      ((s.noteOverflow g).handOver (passWrite id k address x (some g)), result)) := by
  unfold State.captureBeat
  rcases addRequest_cases s g address x.data x.mask with ⟨-, -, e⟩ | ⟨-, -, e⟩ | ⟨-, -, e⟩ <;> rw [e]
  · exact .inl ⟨_, rfl⟩
  · exact .inl ⟨_, rfl⟩
  · dsimp only
    split
    · exact .inr (.inl ⟨_, rfl⟩)
    · exact .inr (.inr ⟨_, rfl⟩)

theorem ingress_decideWrite (s : State) (id : Nat) (x : Transaction) (k : Nat) (w : WriteBeat) :
    (s.decideWrite id x k w).1.ingress = s.ingress := by
  unfold State.decideWrite
  split
  · rfl
  · split
    · exact ingress_handOver ..
    · split
      · rcases captureBeat_cases s id k (x.beatAddress k) w _ with ⟨r, e⟩ | ⟨r, e⟩ | ⟨r, e⟩ <;> rw [e]
        · exact ingress_addRequest ..
        · exact ingress_noteOverflow ..
        · exact (ingress_handOver ..).trans (ingress_noteOverflow ..)
      · unfold State.missBeat
        split
        · rfl
        · exact (ingress_handOver ..).trans (ingress_checkCollision ..)

theorem ingress_decideRead (s : State) (id : Nat) (x : Transaction) (k : Nat) :
    (s.decideRead id x k).1.ingress = s.ingress := by
  unfold State.decideRead
  split
  · exact ingress_handOver ..
  · split
    · exact ingress_handOver ..
    · split
      · rfl
      · exact ingress_handOver ..

theorem leaves_decideWrite (s : State) (id : Nat) (x : Transaction) (k : Nat) (w : WriteBeat) :
    LeavesHeads s (s.decideWrite id x k w).1 :=
  .of_quiet (quiet_decideWrite ..) (keeps_decideWrite ..) (ingress_decideWrite ..)

theorem leaves_decideRead (s : State) (id : Nat) (x : Transaction) (k : Nat) : LeavesHeads s (s.decideRead id x k).1 :=
  .of_quiet (quiet_decideRead ..) (keeps_decideRead ..) (ingress_decideRead ..)

theorem leaves_dispatchBeat (id : Nat) (decided : State × BeatResult) :
    LeavesHeads decided.1 (State.dispatchBeat id decided) :=
  leaves_modifyIngress _ id (by intro _; rfl) (by intro _; rfl)

/-! ## The decision of a beat as a chain of moves -/

/-- R63, R83: the group that is being written is RELEASING. -/
theorem releasing_of_draining (h : Coordinated s) (hd : s.engine.state = .draining) (hg : s.engine.group = some g) :
    (s.group g).state = .releasing := by
  obtain ⟨hc, -⟩ := coordinated_inHand_of_state h (.inr hd)
  exact coordinated_holdsReleasing h g hg (by simp [hc])

/-- R63, R77: a request with no mark, or with the mark of a group that is not RELEASING, is handed over. -/
theorem move_handOver (h : c → Coordinated s) {r : PassRequest} (hr : ∀ g, r.mark = some g → (s.group g).state ≠ .releasing) :
    Move c a s a (s.handOver r) :=
  .handOver r fun hc g hm hd hg => hr g hm (releasing_of_draining (h hc) hd hg)

theorem moves_noteOverflow (g : GroupId) : Moves c a s a (s.noteOverflow g) := by
  have flagged : Move c a s a (s.modifyGroup g GroupRecord.overflow) :=
    move_modifyGroup (by intro _; rfl) (by intro _; rfl) (by simp [GroupRecord.overflow])
  unfold State.noteOverflow
  split
  · exact flagged.one
  · exact flagged.one.trans (move_offerPlain (by simp) _).one

theorem moves_checkCollision (g : GroupId) (address : Word) : Moves c a s a (s.checkCollision g address) := by
  unfold State.checkCollision
  split
  · exact (move_modifyGroup (by intro _; rfl) (by intro _; rfl) (by simp [GroupRecord.collide])).one
  · exact .refl a s

theorem moves_decideWrite (h : c → Coordinated s) {id : Nat} {x : Transaction} {k : Nat} {w : WriteBeat}
    (hf : s.fencedBeat x k = none) (hu : ∃ u ∈ s.ingress, u.id = id ∧ u.request = x) :
    Moves c a s a (s.decideWrite id x k w).1 := by
  unfold State.decideWrite
  split
  · exact .refl a s
  · next hmask =>
    split
    · exact (move_handOver h (by simp [passWrite])).one
    · next v hv =>
      have notReleasing : (s.group v.group).state ≠ .releasing := by
        simpa [State.fencedBeat, hv] using hf
      split
      · next ho =>
        have opened : (s.group v.group).state = .opened := by simpa using (Bool.and_eq_true_iff.mp ho).1
        rcases captureBeat_cases s id k (x.beatAddress k) w v.group with ⟨r, e⟩ | ⟨r, e⟩ | ⟨r, e⟩ <;> rw [e]
        · obtain ⟨u, hu, -, rfl⟩ := hu
          refine (Move.add _ _ _ _ opened hmask ⟨u, hu, k, rfl⟩ fun hc hg => ?_).one
          by_contra hs
          exact notReleasing (coordinated_holdsReleasing (h hc) _ hg hs)
        · exact moves_noteOverflow _
        · refine (moves_noteOverflow _).trans
            (move_handOver (fun hc => coordinated_quiet (h hc) (quiet_noteOverflow ..)) fun g hg => ?_).one
          rw [((quiet_noteOverflow s v.group).records g).state]
          exact Option.some_inj.mp hg ▸ notReleasing
      · unfold State.missBeat
        split
        · exact .refl a s
        · refine (moves_checkCollision ..).trans
            (move_handOver (fun hc => coordinated_quiet (h hc) (quiet_checkCollision ..)) fun g hg => ?_).one
          rw [((quiet_checkCollision s v.group (x.beatAddress k)).records g).state]
          exact Option.some_inj.mp hg ▸ notReleasing

theorem moves_decideRead (h : c → Coordinated s) {id : Nat} {x : Transaction} {k : Nat} (hf : s.fencedBeat x k = none) :
    Moves c a s a (s.decideRead id x k).1 := by
  unfold State.decideRead
  split
  · exact (move_handOver h (by simp)).one
  · next v hv =>
    have marked (g : GroupId) (hg : some v.group = some g) : (s.group g).state ≠ .releasing := by
      cases hg
      simpa [State.fencedBeat, hv] using hf
    split
    · exact (move_handOver h marked).one
    · split
      · exact .refl a s
      · exact (move_handOver h marked).one

/-! ## The judgement (R54) -/

/-- What the traversal of a judgement asks of what happens between two beats. -/
structure Between (c : Prop) (a : Stage) (gap : State → State) : Prop where
  moves : ∀ (s : State) (judging : Nat × Nat), (c → Coordinated s) →
    Moves c { a with judging := some judging } s { a with judging := some judging } (gap s)
  sound : ∀ s, Sound s (gap s)
  leaves : ∀ s, LeavesHeads s (gap s)

theorem between_nothing (c : Prop) (a : Stage) : Between c a id := ⟨fun s _ _ => .refl _ s, .refl, .refl⟩

section Judgement

variable {gap : State → State} (hg : Between c a gap)
include hg

theorem sound_beforeBeat (s : State) (k : Nat) : Sound s (s.beforeBeat gap k) := by
  unfold State.beforeBeat
  split
  · exact .refl s
  · exact hg.sound s

theorem leaves_beforeBeat (s : State) (k : Nat) : LeavesHeads s (s.beforeBeat gap k) := by
  unfold State.beforeBeat
  split
  · exact .refl s
  · exact hg.leaves s

theorem moves_beforeBeat (h : c → Coordinated s) (judging : Nat × Nat) (k : Nat) :
    Moves c { a with judging := some judging } s { a with judging := some judging } (s.beforeBeat gap k) := by
  unfold State.beforeBeat
  split
  · exact .refl _ s
  · exact hg.moves s judging h

theorem leaves_decideReads (s : State) (id : Nat) (x : Transaction) (k n : Nat) :
    LeavesHeads s (s.decideReads gap id x k n) := by
  induction n generalizing s k with
  | zero => exact .refl s
  | succ n ih =>
    exact (((leaves_beforeBeat hg s k).trans (leaves_decideRead ..)).trans (leaves_dispatchBeat id _)).trans (ih _ _)

theorem leaves_decideWrites (s : State) (id : Nat) (x : Transaction) (k : Nat) (beats : List WriteBeat) :
    LeavesHeads s (s.decideWrites gap id x k beats) := by
  induction beats generalizing s k with
  | nil => exact .refl s
  | cons w beats ih =>
    exact (((leaves_beforeBeat hg s k).trans (leaves_decideWrite ..)).trans (leaves_dispatchBeat id _)).trans (ih _ _)

theorem moves_decideReads {id : Nat} {x : Transaction} (n : Nat) {k : Nat} {s : State} (h : c → Coordinated s)
    (hf : ∀ j, k ≤ j → j < k + n → s.fencedBeat x j = none) :
    Moves c { a with judging := some (id, k) } s { a with judging := some (id, k + n) } (s.decideReads gap id x k n) := by
  induction n generalizing s k with
  | zero => exact .refl _ s
  | succ n ih =>
    have hb := leaves_beforeBeat hg s k
    have hc : c → Coordinated (s.beforeBeat gap k) := fun hc => (sound_beforeBeat hg s k).coordinated (h hc)
    have next := ih (s := State.dispatchBeat id ((s.beforeBeat gap k).decideRead id x k)) (k := k + 1)
      (fun h => coordinated_quiet (hc h) ((quiet_decideRead ..).trans (quiet_modifyIngress ..))) fun j h1 h2 => by
        rw [((hb.trans (leaves_decideRead ..)).trans (leaves_dispatchBeat id _)).fencedBeat]
        exact hf j (by omega) (by omega)
    rw [Nat.add_right_comm] at next
    have beat := moves_decideRead (a := { a with judging := some (id, k) }) hc (id := id) (x := x) (k := k)
      (by rw [hb.fencedBeat]; exact hf k (le_refl k) (by omega))
    exact (((moves_beforeBeat hg h (id, k) k).trans beat).trans (Move.beatDecided id k _ rfl).one).trans next

theorem moves_decideWrites {id : Nat} {x : Transaction} (beats : List WriteBeat) {k : Nat} {s : State}
    (h : c → Coordinated s) (hf : ∀ j, k ≤ j → j < k + beats.length → s.fencedBeat x j = none)
    (hu : ∃ u ∈ s.ingress, u.id = id ∧ u.request = x) :
    Moves c { a with judging := some (id, k) } s { a with judging := some (id, k + beats.length) }
      (s.decideWrites gap id x k beats) := by
  induction beats generalizing s k with
  | nil => exact .refl _ s
  | cons w beats ih =>
    rw [List.length_cons] at hf ⊢
    have hb := leaves_beforeBeat hg s k
    have hc : c → Coordinated (s.beforeBeat gap k) := fun hc => (sound_beforeBeat hg s k).coordinated (h hc)
    have hl := (hb.trans (leaves_decideWrite _ id x k w)).trans (leaves_dispatchBeat id _)
    have next := ih (s := State.dispatchBeat id ((s.beforeBeat gap k).decideWrite id x k w)) (k := k + 1)
      (fun h => coordinated_quiet (hc h) ((quiet_decideWrite ..).trans (quiet_modifyIngress ..)))
      (fun j h1 h2 => by rw [hl.fencedBeat]; exact hf j (by omega) (by omega)) (hl.member hu)
    rw [Nat.add_right_comm] at next
    have beat := moves_decideWrite (a := { a with judging := some (id, k) }) hc (id := id) (x := x) (k := k) (w := w)
      (by rw [hb.fencedBeat]; exact hf k (le_refl k) (by omega)) (hb.member hu)
    exact (((moves_beforeBeat hg h (id, k) k).trans beat).trans (Move.beatDecided id k _ rfl).one).trans next

theorem leaves_decideBeats (s : State) (id : Nat) (x : Transaction) : LeavesHeads s (s.decideBeats gap id x) := by
  unfold State.decideBeats
  split
  · exact leaves_decideReads hg ..
  · exact leaves_decideWrites hg ..

theorem moves_decideBeats {id : Nat} {x : Transaction} (h : c → Coordinated s) (hf : s.fenceTest x = none)
    (hu : ∃ u ∈ s.ingress, u.id = id ∧ u.request = x) :
    Moves c { a with judging := some (id, 0) } s { a with judging := some (id, x.beatCount) } (s.decideBeats gap id x) := by
  have fence (j : Nat) (hj : j < x.beatCount) : s.fencedBeat x j = none :=
    (List.findSome?_eq_none_iff.mp hf) j (List.mem_range.mpr hj)
  unfold State.decideBeats
  split
  · next n hn =>
    have hb : x.beatCount = n := by simp [Transaction.beatCount, hn]
    have hm := moves_decideReads hg (id := id) (x := x) n (k := 0) h fun j _ hj => fence j (by omega)
    rw [hb]
    rwa [Nat.zero_add] at hm
  · next beats hn =>
    have hb : x.beatCount = beats.length := by simp [Transaction.beatCount, hn]
    have hm := moves_decideWrites hg (id := id) (x := x) beats (k := 0) h (fun j _ hj => fence j (by omega)) hu
    rw [hb]
    rwa [Nat.zero_add] at hm

/-- R54: a judgement, whatever happens between two of its beats. -/
theorem moves_judge (hj : a.judging = none) (h : c → Coordinated s) : Moves c a s a (s.judge gap) := by
  obtain ⟨ending, judging, granting⟩ := a
  obtain rfl : judging = none := hj
  rcases judge_cases s gap with ⟨-, e⟩ | ⟨u, hu, -, ⟨-, e⟩ | ⟨g, -, -, e⟩ | ⟨-, hf, e⟩⟩ <;> rw [e]
  · exact (Move.headFails u rfl hu).one
  · exact (move_setFence _).one
  · have member : ∃ v ∈ s.ingress, v.id = u.id ∧ v.request = u.request := ⟨u, List.mem_of_find?_eq_some hu, rfl, rfl⟩
    obtain ⟨v, hv, hid, hr⟩ := (leaves_decideBeats hg s u.id u.request).member member
    have ends : Move c ⟨ending, some (u.id, u.request.beatCount), granting⟩ (s.decideBeats gap u.id u.request)
        ⟨ending, none, granting⟩ ((s.decideBeats gap u.id u.request).modifyIngress v.id Ingress.dispatch) :=
      .judgingEnds v hv (by rw [hid, hr])
    rw [hid] at ends
    exact ((Move.judgingBegins u rfl hu).one.trans (moves_decideBeats hg h hf member)).trans ends.one

end Judgement

theorem moves_judgeBeforeTaking (hj : a.judging = none) (h : c → Coordinated s) : Moves c a s a s.judgeBeforeTaking := by
  have times (n : Nat) {s : State} (h : c → Coordinated s) : Moves c a s a (s.judgeTimes n) := by
    induction n generalizing s with
    | zero => exact .refl a s
    | succ n ih =>
      exact (moves_judge (between_nothing c a) hj h).trans (ih fun hc => (sound_judge s .refl).coordinated (h hc))
  unfold State.judgeBeforeTaking
  split
  · exact move_useFree.one.trans (times _ fun hc => coordinated_quiet (h hc) (quiet_useFree s))
  · exact .refl a s

end Sys2Proof.Machine
end

section
/-!
The taking of a group, the end of a release, and the end of a request at the memory port as chains of moves (R80 to R102).
-/
namespace Sys2Proof.Machine

open Safety

variable {c : Prop} {a b : Stage} {s t u v : State} {g : GroupId}

/-! ## The taking and the end of a release (R81 to R89) -/

/-- R83, R84: SETTLING ends with no request of the group unfinished, and the walk begins. -/
theorem moves_endSettling {finish : State → State} (hw : c → s.engine.write = .none ∧ s.engine.copy = none)
    (hs : ∀ g, s.engine.group = some g → s.settleCount g = 0)
    (hf : s.nextEntry = none → Moves c a (s.setEngine { s.engine with state := .draining })
      { a with granting := true } (finish (s.setEngine { s.engine with state := .draining }))) :
    Moves c a s { a with granting := true } (s.endSettling finish) := by
  have drains : Moves c a s a (s.setEngine { s.engine with state := .draining }) :=
    (Move.context { s.engine with state := .draining } (fun hc => (hw hc).1) (fun hc => (hw hc).2) (fun hc => by simp [(hw hc).1]) fun _ => .inr hs).one
  unfold State.endSettling
  rcases walkOn_cases (s.setEngine { s.engine with state := .draining }) finish with ⟨e, hn, e'⟩ | ⟨hn, e'⟩ <;> rw [e']
  · exact drains.trans (Move.request e hn fun hc => (hw hc).1).one
  · exact drains.trans (hf hn)

theorem moves_takeGroup (h : c → Coordinated s) (hs : s.engine.state = .idle) (g : GroupId) (rest : List GroupId) :
    Moves c a s a (s.takeGroup g rest) := by
  have context : Move c a (s.setLaunchQueue rest) a ((s.setLaunchQueue rest).setEngine (s.takenContext g)) :=
    .context _ (fun _ => rfl) (fun _ => rfl) (fun hc => by simp [(h hc).context.1 hs]) (by simp [State.takenContext])
  exact ((move_setLaunchQueue rest).one.trans context.one).trans
    (move_modifyGroup (by intro _; rfl) (by intro _; rfl) (by simp)).one

theorem moves_takeHead (h : c → Coordinated s) : Moves c a s { a with granting := true } s.takeHead := by
  rcases takeHead_cases s with ⟨-, e⟩ | ⟨g, rest, hs, hq, ⟨-, e⟩ | ⟨hz, e⟩⟩ <;> rw [e]
  · exact Move.mayGrant.one
  · exact (moves_takeGroup h hs g rest).trans Move.mayGrant.one
  · refine (moves_takeGroup h hs g rest).trans (moves_endSettling (fun _ => ⟨rfl, rfl⟩) (fun k hk => ?_) fun _ => ?_)
    · obtain rfl : g = k := Option.some_inj.mp hk
      exact hz
    · exact (moves_finishRelease (fun _ => rfl) .complete).trans Move.mayGrant.one

/-- R64, R89: what follows the end of a release in the same event. -/
theorem moves_afterRelease (hj : a.judging = none) (h : c → Coordinated s) :
    Moves c a s { a with granting := true } s.judgeBeforeTaking.takeHead :=
  (moves_judgeBeforeTaking hj h).trans (moves_takeHead fun hc => (sound_judgeBeforeTaking s).coordinated (h hc))

theorem moves_endRelease {o : ReleaseOutcome} (hj : a.judging = none) (hw : c → s.engine.write = .none)
    (h : c → ∃ g, InHand s g) (ho : c → o = .stopped ∨ s.engine.cause ≠ some .softReset) :
    Moves c a s { a with granting := true } (s.endRelease o) := by
  refine (moves_finishRelease hw o).trans (moves_afterRelease hj fun hc => ?_)
  obtain ⟨g, hg⟩ := h hc
  exact hg.finishRelease (ho hc)

theorem moves_takeNext (h : c → Coordinated s) : Moves c {} s {} s.takeNext := by
  rcases takeNext_cases s with ⟨-, e⟩ | ⟨-, -, e⟩ <;> rw [e]
  exact (moves_takeHead h).trans (moves_grantAll fun hc => (sound_takeHead s).coordinated (h hc))

theorem moves_takeIfAppended (h : c → Coordinated s) (n : Nat) : Moves c {} s {} (s.takeIfAppended n) := by
  unfold State.takeIfAppended
  split
  · exact moves_takeNext h
  · exact .refl _ s

/-! ## The end of a request at the memory port (R83 to R91, R100, R101) -/

/-- R83: SETTLING may end. -/
theorem moves_settleOn (h : c → Coordinated s) (hj : s.isSettled = true → s.nextEntry = none → a.judging = none) :
    Moves c a s { a with granting := true } s.settleOn := by
  unfold State.settleOn
  split
  · next hs =>
    obtain ⟨hset, g, hg, hz⟩ := (isSettled_iff s).mp hs
    have noWrite (hc : c) : s.engine.cause = none ∧ s.engine.write = .none ∧ s.engine.copy = none := by
      obtain ⟨-, -, hcause, hcopy, hwrite, -⟩ := (contextWellFormed_settling hset).mp (h hc).context
      exact ⟨hcause, hwrite, hcopy⟩
    refine moves_endSettling (fun hc => (noWrite hc).2) (fun k hk => ?_) fun hn => ?_
    · obtain rfl : g = k := Option.some_inj.mp (hg.symm.trans hk)
      exact hz
    · exact moves_endRelease (hj hs hn) (fun hc => (noWrite hc).2.1)
        (fun hc => ⟨g, (coordinated_inHand (h hc) hg).setEngine hg Iff.rfl⟩) fun hc => .inr (by simp [(noWrite hc).1])
  · exact Move.mayGrant.one

theorem writeGone_draining (hs : s.engine.state = .draining) (hg : s.engine.group = some g) :
    s.engine.writeGone = { s.engine with write := .none, copy := none } := by
  simp [Engine.writeGone, hs, hg]

theorem writeGone_stopping (hs : s.engine.state = .stopping) (hg : s.engine.group = some g) :
    s.engine.writeGone = { s.engine with write := .none, copy := none } := by
  simp [Engine.writeGone, hs, hg]

/-- R42, R85, R91: with its write gone, the entry is freed or not and the outcome is counted. -/
theorem moves_writePassed (he : s.engine.writeGone = { s.engine with write := .none, copy := none })
    (hv : v = s ∨ v = s.freeHead g) {e : Engine} (hw : e.write = .none) (hc : e.copy = none)
    (hs : e.state = s.engine.state) (hg : e.group = s.engine.group) :
    Moves c a (s.setEngine s.engine.writeGone) a (v.setEngine e) := by
  rw [he]
  have counts {u : State} (hu : u.engine = { s.engine with write := .none, copy := none }) : Move c a u a (u.setEngine e) :=
    .context e (fun _ => hw) (fun _ => hc) (fun _ => by simp [hu]) fun hd => .inl (by rw [hu]; exact ⟨hs ▸ hd, hg⟩)
  rcases hv with rfl | rfl
  · exact (counts (u := v.setEngine { v.engine with write := .none, copy := none }) rfl).one
  · have freed := Move.freeHead (c := c) (a := a) (s := s.setEngine { s.engine with write := .none, copy := none }) g fun _ => rfl
    rw [freeHead_setEngine] at freed
    exact freed.one.trans (counts (u := (s.freeHead g).setEngine { s.engine with write := .none, copy := none }) rfl).one

/-- R85, R86: the part once the write is gone, its outcome counted and its entry passed. -/
theorem passed_cases (s : State) (g : GroupId) (answer : Answer) :
    ∃ v e, (v = s ∨ v = s.freeHead g) ∧ e.write = .none ∧ e.copy = none ∧ e.state = s.engine.state ∧
      e.group = s.engine.group ∧ ((s.countWrite answer).passEntry g).dropWrite = v.setEngine e := by
  rw [countWrite_eq]
  unfold State.passEntry
  split
  · rw [freeHead_setEngine]
    exact ⟨s.freeHead g, s.engine.writeCounted answer, .inr rfl, rfl, rfl, rfl, rfl, by
      rw [State.dropWrite, State.setEngine_engine]; rfl⟩
  · exact ⟨s, { s.engine.writeCounted answer with cursor := s.engine.cursor + 1 }, .inl rfl, rfl, rfl, rfl, rfl, rfl⟩
  · exact ⟨s, s.engine.writeCounted answer, .inl rfl, rfl, rfl, rfl, rfl, rfl⟩

/-- R87: a write that fails under ABORT ends the release. -/
theorem moves_writeFailed (h : c → Coordinated s) (hj : a.judging = none) (hs : s.engine.state = .draining)
    (hg : s.engine.group = some g) :
    Moves c a (s.setEngine s.engine.writeGone) { a with granting := true }
      ((s.setEngine { s.engine with failed := 1, write := .none, copy := none }).endRelease .fault) := by
  have passed : Moves c a (s.setEngine s.engine.writeGone) a
      (s.setEngine { s.engine with failed := 1, write := .none, copy := none }) :=
    moves_writePassed (writeGone_draining hs hg) (g := g) (.inl rfl) rfl rfl rfl rfl
  refine passed.trans (moves_endRelease hj (fun _ => rfl) (fun hc => ?_) fun hc => .inr ?_)
  · exact ⟨g, (coordinated_inHand (h hc) hg).setEngine hg Iff.rfl⟩
  · obtain ⟨hcause, -⟩ := coordinated_inHand_of_state (h hc) (.inr hs)
    simp [hcause]

/-- R84 to R86: the walk goes on once its entry has been passed. -/
theorem moves_writeWalks (h : c → Coordinated s) {answer : Answer}
    (hj : ((s.countWrite answer).passEntry g).nextEntry = none → a.judging = none) (hs : s.engine.state = .draining)
    (hg : s.engine.group = some g) :
    Moves c a (s.setEngine s.engine.writeGone) { a with granting := true }
      ((((s.countWrite answer).passEntry g).dropWrite).walkOn fun s => s.endRelease .complete) := by
  have dropped (hc : c) : Draining (((s.countWrite answer).passEntry g).dropWrite) g :=
    ((Draining.mk (h hc) hs hg).countWrite answer).passEntry.dropWrite
  have passed : Moves c a (s.setEngine s.engine.writeGone) a (((s.countWrite answer).passEntry g).dropWrite) := by
    obtain ⟨v, e, hv, hw, hc, hst, hgr, e'⟩ := passed_cases s g answer
    rw [e']
    exact moves_writePassed (writeGone_draining hs hg) hv hw hc hst hgr
  rcases walkOn_cases (((s.countWrite answer).passEntry g).dropWrite) fun s => s.endRelease .complete with
    ⟨x, hx, e'⟩ | ⟨hx, e'⟩ <;> rw [e']
  · exact passed.trans (Move.request x hx fun _ => rfl).one
  · refine passed.trans (moves_endRelease (hj hx) (fun _ => rfl) (fun hc => ?_) fun hc => .inr ?_)
    · exact ⟨g, coordinated_inHand (dropped hc).coordinated (dropped hc).group⟩
    · obtain ⟨hcause, -⟩ := coordinated_inHand_of_state (dropped hc).coordinated (.inr (dropped hc).state)
      simp [hcause]

/-- R91: the stop ends with its write. -/
theorem moves_writeStopped (h : c → Coordinated s) (hj : a.judging = none) (hs : s.engine.state = .stopping)
    (hg : s.engine.group = some g) (answer : Answer) :
    Moves c a (s.setEngine s.engine.writeGone) { a with granting := true } (s.writeEnded answer) := by
  obtain ⟨v, hv, e⟩ := writeEnded_stopping hs hg answer
  have passed : Moves c a (s.setEngine s.engine.writeGone) a (v.setEngine (s.engine.writeCounted answer)) :=
    moves_writePassed (writeGone_stopping hs hg) (hv.imp_right And.right) rfl rfl rfl rfl
  rw [e]
  refine passed.trans (moves_endRelease hj (fun _ => rfl) (fun hc => ?_) fun _ => .inl rfl)
  have inHand : InHand v g ∧ v.engine = s.engine := by
    rcases hv with rfl | ⟨-, rfl⟩
    · exact ⟨coordinated_inHand (h hc) hg, rfl⟩
    · exact ⟨(coordinated_inHand (h hc) hg).quiet (quiet_freeHead ..), freeHead_engine ..⟩
  exact ⟨g, inHand.1.setEngine hg (by rw [inHand.2]; rfl)⟩

/-- R85 to R87, R91: what the engine does once its write has been handed back. -/
theorem moves_writeEnded (h : c → Coordinated s) {answer : Answer} {e : Entry} {data : Word}
    (hj : s.endsRelease (.release e) answer data = true → a.judging = none) :
    Moves c a (s.setEngine s.engine.writeGone) { a with granting := true } (s.writeEnded answer) := by
  rcases writeEnded_cases s answer with ⟨g, hs, hg, ⟨ha, hp, e'⟩ | ⟨-, e'⟩⟩ | ⟨g, hs, hg, -⟩ | ⟨hn, e'⟩
  · rw [e']
    exact moves_writeFailed h (hj (by simp [State.endsRelease, hs, hg, ha, hp])) hs hg
  · rw [e']
    exact moves_writeWalks h (fun hn => hj (by simp [State.endsRelease, hs, hg, State.walkEnds, hn])) hs hg
  · exact moves_writeStopped h (hj (by simp [State.endsRelease, hs, hg])) hs hg answer
  · have gone : s.engine.writeGone = s.engine := by
      unfold Engine.writeGone
      split
      · next hs hg => simp [hs, hg] at hn
      · next hs hg => simp [hs, hg] at hn
      · rfl
    rw [e', gone]
    exact Move.mayGrant.one

/-- R77, R101: a request at the memory port has ended, before its block acts on that. -/
def State.requestGone (s : State) (request : PortRequest) (answer : Answer) (data : Word) : State :=
  match request with
  | .passThrough r => s.endPass r answer data
  | .release _ => s.setEngine s.engine.writeGone

theorem move_requestGone (h : c → Coordinated s) (hf : a.ending = none) {tag : TagId} {request : PortRequest} {n m : Nat}
    (ht : s.tag tag = .busy request n m) (answer : Answer) (data : Word) :
    Move c a s { a with ending := some tag } (s.requestGone request answer data) := by
  cases request with
  | passThrough r => exact .passEnds tag r n m answer data hf ht
  | release e => exact .writeEnds tag e n m hf ht fun hc => (h hc).context

/-- R101: the block that made the request acts on its end. -/
theorem moves_handBack (h : c → Coordinated s) {request : PortRequest} {answer : Answer} {data : Word}
    (hj : s.endsRelease request answer data = true → a.judging = none) :
    Moves c a (s.requestGone request answer data) { a with granting := true } (s.handBack request answer data) := by
  cases request with
  | passThrough r =>
    refine moves_settleOn (fun hc => coordinated_quiet (h hc) (quiet_endPass ..)) fun hs hn => hj ?_
    obtain ⟨hset, g, hg, -⟩ := (isSettled_iff _).mp hs
    have hst : s.engine.state = .settling := hset
    have hgr : s.engine.group = some g := hg
    have hen : s.nextEntry = none := hn
    have hsettled : (s.endPass r answer data).isSettled = true := hs
    simp [State.endsRelease, hst, hgr, hsettled, hen]
  | release e => exact moves_writeEnded h hj

/-- The record of a port that is stuck stands apart from an operation that leaves the tags and the completion queue alone. -/
theorem noteStuck_apart {op : State → State} (hs : (op s).port.isStuck = s.port.isStuck)
    (ho : op (s.offerPlain .downstreamStuck none) = (op s).offerPlain .downstreamStuck none) :
    op s.noteStuck = (op s).noteStuck := by
  unfold State.noteStuck
  rw [hs]
  split
  · exact ho
  · rfl

/-- R100: abandoning the tag, and the record of that, stand apart from the end of the request. -/
theorem requestGone_abandoned (s : State) (tag : TagId) (request : PortRequest) (answer : Answer) (data : Word) :
    ((s.setTag tag .abandoned).noteStuck).requestGone request answer data =
      ((s.requestGone request answer data).setTag tag .abandoned).noteStuck := by
  cases request with
  | passThrough r => exact noteStuck_apart (op := fun u => u.endPass r answer data) rfl rfl
  | release e => exact noteStuck_apart (op := fun u => u.setEngine u.engine.writeGone) rfl rfl

end Sys2Proof.Machine
end

section
/-!
The events of the memory port and of the timebase, the notices and the clock as chains of moves (R98 to R143).
-/
namespace Sys2Proof.Machine

open Safety

variable {c : Prop} {a b : Stage} {s t u v : State} {g : GroupId} {judging : Option (Nat × Nat)}

/-! ## The events of the memory port (R98 to R102) -/

theorem endsRelease_noteStuck (s : State) (tag : TagId) (x : TagState) (request : PortRequest) (answer : Answer) (data : Word) :
    ((s.setTag tag x).noteStuck).endsRelease request answer data = s.endsRelease request answer data := by
  rw [Bool.eq_iff_iff, endsRelease_iff, endsRelease_iff]
  unfold State.noteStuck
  split <;> exact Iff.rfl

theorem moves_takeResponse (h : c → Coordinated s) {tag : TagId} {answer : Answer} {data : Word}
    (hj : s.barredBetweenBeats tag answer data = true → judging = none) :
    Moves c ⟨none, judging, false⟩ s ⟨none, judging, false⟩ (s.takeResponse tag answer data) := by
  rcases takeResponse_cases s tag answer data with ⟨-, e⟩ | ⟨ht, e⟩ | ⟨r, n, m, ht, e⟩ <;> rw [e]
  · exact (Move.tagFreed tag (.inr ⟨rfl, ht⟩)).one.trans (moves_grantAll fun hc => coordinated_quiet (h hc) (quiet_setTag ..))
  · have ends : Moves c ⟨some tag, judging, false⟩ (s.requestGone r answer data) ⟨some tag, judging, true⟩
        (s.handBack r answer data) := moves_handBack h fun hr => hj (by simpa [State.barredBetweenBeats, ht] using hr)
    have frees : Move c ⟨some tag, judging, true⟩ (s.handBack r answer data) ⟨none, judging, true⟩
        ((s.handBack r answer data).setTag tag .free) := .tagFreed tag (.inl rfl)
    refine (((move_requestGone h rfl ht answer data).one.trans ends).trans frees.one).trans
      (moves_grantAll fun hc => coordinated_quiet ?_ (quiet_setTag ..))
    exact (sound_handBack ..).coordinated (h hc)

theorem moves_timeOut (h : c → Coordinated s) {tag : TagId}
    (hj : s.barredBetweenBeats tag .error 0 = true → judging = none) :
    Moves c ⟨none, judging, false⟩ s ⟨none, judging, false⟩ (s.timeOut tag) := by
  rcases timeOut_cases s tag with ⟨-, e⟩ | ⟨r, n, m, ht, e⟩ <;> rw [e]
  have noted (hc : c) : Coordinated ((s.setTag tag .abandoned).noteStuck) :=
    coordinated_quiet (h hc) ((quiet_setTag ..).trans (quiet_noteStuck _))
  have fails : Moves c ⟨none, judging, false⟩ s ⟨none, judging, false⟩
      (((s.setTag tag .abandoned).noteStuck).requestGone r .error 0) := by
    rw [requestGone_abandoned]
    have leaves : Move c ⟨some tag, judging, false⟩ (s.requestGone r .error 0) ⟨none, judging, false⟩
        ((s.requestGone r .error 0).setTag tag .abandoned) := .tagAbandoned tag rfl
    exact ((move_requestGone h rfl ht .error 0).one.trans leaves.one).trans moves_noteStuck
  have ends : Moves c ⟨none, judging, false⟩ (((s.setTag tag .abandoned).noteStuck).requestGone r .error 0)
      ⟨none, judging, true⟩ (((s.setTag tag .abandoned).noteStuck).handBack r .error 0) := by
    refine moves_handBack noted fun hr => hj ?_
    rw [endsRelease_noteStuck] at hr
    simpa [State.barredBetweenBeats, ht] using hr
  exact (fails.trans ends).trans (moves_grantAll fun hc => (sound_handBack ..).coordinated (noted hc))

/-! ## The events between two beats (R54, R70) -/

theorem leaves_handBack {r : PortRequest} {answer : Answer} {data : Word} (h : s.endsRelease r answer data = false) :
    LeavesHeads s (s.handBack r answer data) := by
  have passed (g : GroupId) : LeavesHeads s ((s.countWrite answer).passEntry g) := by
    rw [countWrite_eq]
    unfold State.passEntry
    split
    · exact (leaves_setEngine ..).trans (leaves_freeHead ..)
    · exact (leaves_setEngine ..).trans (leaves_setEngine ..)
    · exact leaves_setEngine ..
  rcases handBack_of_not_endsRelease h with ⟨r, -, ⟨-, e⟩ | ⟨x, -, -, e⟩⟩ | ⟨w, -, ⟨-, e⟩ | ⟨g, x, -, -, -, e⟩⟩ <;> rw [e]
  · exact leaves_endPass ..
  · exact ((leaves_endPass ..).trans (leaves_setEngine ..)).trans (leaves_setEngine ..)
  · exact .refl s
  · exact ((passed g).trans (leaves_setEngine ..)).trans (leaves_setEngine ..)

theorem leaves_takeBetween (s : State) (event : PortEvent) : LeavesHeads s (s.takeBetween event) := by
  rcases takeBetween_cases s event with e | ⟨tag, answer, data, -, hb, e⟩ | ⟨tag, -, hb, e⟩ <;> rw [e]
  · exact .refl s
  · rcases takeResponse_cases s tag answer data with ⟨-, e⟩ | ⟨-, e⟩ | ⟨r, n, m, ht, e⟩ <;> rw [e]
    · exact .refl s
    · exact (leaves_setPort ..).trans (leaves_grantAll _)
    · exact ((leaves_handBack (by simpa [State.barredBetweenBeats, ht] using hb)).trans (leaves_setPort ..)).trans
        (leaves_grantAll _)
  · rcases timeOut_cases s tag with ⟨-, e⟩ | ⟨r, n, m, ht, e⟩ <;> rw [e]
    · exact .refl s
    · have ends : ((s.setTag tag .abandoned).noteStuck).endsRelease r .error 0 = false := by
        rw [endsRelease_noteStuck]
        simpa [State.barredBetweenBeats, ht] using hb
      exact (((leaves_setPort ..).trans (leaves_noteStuck _)).trans (leaves_handBack ends)).trans (leaves_grantAll _)

theorem moves_takeBetween (h : c → Coordinated s) (event : PortEvent) :
    Moves c ⟨none, judging, false⟩ s ⟨none, judging, false⟩ (s.takeBetween event) := by
  rcases takeBetween_cases s event with e | ⟨tag, answer, data, -, hb, e⟩ | ⟨tag, -, hb, e⟩ <;> rw [e]
  · exact moves_takeResponse h (by simp [hb])
  · exact moves_timeOut h fun hr => absurd (hb.symm.trans hr) (by simp)

theorem sound_takeBetween (s : State) (event : PortEvent) : Sound s (s.takeBetween event) := by
  rcases takeBetween_cases s event with e | ⟨tag, answer, data, -, -, e⟩ | ⟨tag, -, -, e⟩ <;> rw [e]
  · exact .refl s
  · exact sound_takeResponse ..
  · exact sound_timeOut ..

/-- R54, R70: what happens between two beats of the command JUDGEMENT. -/
theorem between_betweenBeats (c : Prop) : Between c {} State.betweenBeats := by
  refine ⟨fun s judging h => ?_, sound_betweenBeats, fun s => ?_⟩
  · unfold State.betweenBeats
    split
    · exact .refl _ s
    · exact move_useFree.one.trans (Moves.foldl (Q := fun s => c → Coordinated s) (fun s event hs => moves_takeBetween hs event)
        (fun s event hs hc => (sound_takeBetween s event).coordinated (hs hc)) _
        fun hc => coordinated_quiet (h hc) (quiet_useFree s))
  · unfold State.betweenBeats
    split
    · exact .refl s
    · refine LeavesHeads.trans (t := s.useFree) ⟨rfl, fun _ => rfl, rfl⟩ ?_
      exact List.foldlRecOn _ _ (.refl _) fun t ht event _ => ht.trans (leaves_takeBetween t event)

/-! ## Marks (R107 to R143) -/

theorem moves_lowerOne (m : Mark) (fires : GroupId → Bool) (s : State) (g : GroupId) :
    Moves c a s a (State.lowerOne m fires s g) := by
  unfold State.lowerOne
  split
  · refine (move_modifyGroup (fun r => ?_) (fun r => ?_) fun r h => (lowerDeadline_state r).symm.trans h).one
    · unfold GroupRecord.lowerDeadline
      split <;> rfl
    · unfold GroupRecord.lowerDeadline
      split <;> rfl
  · exact .refl a s

theorem moves_markNotice (h : c → s.HoldsReleasing) (fires : GroupId → Bool) (g : GroupId) :
    Moves c a s a (State.markNotice fires s g) := by
  unfold State.markNotice
  split
  · exact moves_firingNotice g
  · exact moves_expiryNotice h g

/-- R138: while a mark is handled, the release context agrees with the groups but for deadlines. -/
structure MarkHandled (held : Engine) (fires : GroupId → Bool) (s : State) : Prop where
  agree : Agree (fun k => fires k = false) held.Holds s
  engine : s.engine = held

theorem MarkHandled.holdsReleasing {e : Engine} {fires : GroupId → Bool} (h : MarkHandled e fires s) : s.HoldsReleasing :=
  holdsReleasing_of_agree (by rw [h.engine]; exact h.agree)

theorem MarkHandled.lowerOne {e : Engine} {fires : GroupId → Bool} (h : MarkHandled e fires s) (m : Mark) (g : GroupId) :
    MarkHandled e fires (State.lowerOne m fires s g) :=
  ⟨h.agree.lowerOne m g, (lowerOne_rest m fires s g).1.trans h.engine⟩

theorem MarkHandled.markNotice {e : Engine} {fires : GroupId → Bool} (h : MarkHandled e fires s) (g : GroupId) :
    MarkHandled e fires (State.markNotice fires s g) :=
  ⟨(h.agree.markNotice (g := g) id).mono fun _ hk => hk.1, (markNotice_rest fires s g).1.trans h.engine⟩

theorem moves_takeMark (h : c → Coordinated s) (m : Mark) : Moves c {} s {} (s.takeMark m) := by
  have handled (hc : c) : MarkHandled s.engine (s.markFires m) s :=
    ⟨(coordinated_agree (h hc)).mono fun _ => False.elim, rfl⟩
  have lowered := Moves.foldl (c := c) (a := {}) (Q := fun _ => True)
    (fun t g _ => moves_lowerOne m (s.markFires m) t g) (fun _ _ h => h) allGroups (s := s) trivial
  have lowered' (hc : c) : MarkHandled s.engine (s.markFires m) (allGroups.foldl (State.lowerOne m (s.markFires m)) s) :=
    List.foldlRecOn _ _ (handled hc) fun t ht g _ => ht.lowerOne m g
  have notices := Moves.foldl (c := c) (a := {}) (Q := fun t => c → MarkHandled s.engine (s.markFires m) t)
    (fun t g ht => moves_markNotice (fun hc => (ht hc).holdsReleasing) (s.markFires m) g)
    (fun t g ht hc => (ht hc).markNotice g) allGroups lowered'
  refine (lowered.trans notices).trans (moves_takeIfAppended (fun hc => ?_) _)
  have agree := Agree.markNotices allGroups ((lowered' hc).agree.mono fun k hk => ⟨hk, mem_allGroups k⟩)
  obtain ⟨he, hf⟩ := foldl_rest (lowerOne_rest m (s.markFires m)) allGroups s
  obtain ⟨he', hf'⟩ := foldl_rest (markNotice_rest (s.markFires m)) allGroups _
  exact coordinated_of_agree (h hc) agree ⟨he'.trans he, hf'.trans hf⟩

/-! ## The timebase (R107 to R117) -/

theorem timebaseInRange_frameMark {tb : Timebase} (h : TimebaseInRange tb) : TimebaseInRange tb.frameMark := by
  obtain ⟨-, h2⟩ := h
  exact ⟨Nat.zero_le _, h2⟩

/-- R112 to R117: a frame mark that leaves the timebase locked, or running free, in EXTERNAL mode. -/
theorem timebaseInRange_relocked {tb : Timebase} (hx : TimebaseInRange tb → tb.lock ≠ .none) {lock : LockState}
    (hl : lock ≠ .none) (h : TimebaseInRange tb) : TimebaseInRange { tb.frameMark with lock := lock } := by
  obtain ⟨-, hlock, hrest⟩ := timebaseInRange_frameMark h
  exact ⟨Nat.zero_le _, iff_of_false hl (mt hlock.mpr (hx h)), hrest⟩

/-- A change of the timebase, and the mark that it makes. -/
theorem moves_marked (h : c → Coordinated s) {tb : Timebase} (hr : TimebaseInRange s.timebase → TimebaseInRange tb)
    (kind : MarkKind) : Moves c {} s {} ((s.setTimebase tb).handMark kind) :=
  (Move.timebase tb hr).one.trans (moves_takeMark (fun hc => coordinated_quiet (h hc) (quiet_setTimebase ..)) _)

/-- A change of the timebase, its record, and the mark that it makes. -/
theorem moves_recorded (h : c → Coordinated s) {tb : Timebase} (hr : TimebaseInRange s.timebase → TimebaseInRange tb)
    {record : RecordKind} (hk : record ≠ .released) (kind : MarkKind) :
    Moves c {} s {} (((s.setTimebase tb).offerPlain record none).handMark kind) :=
  ((Move.timebase tb hr).one.trans (move_offerPlain hk none).one).trans
    (moves_takeMark (fun hc => coordinated_quiet (h hc) ((quiet_setTimebase ..).trans (quiet_offerPlain ..))) _)

theorem moves_generatedFrame (h : c → Coordinated s) : Moves c {} s {} s.generatedFrame := by
  unfold State.generatedFrame
  split
  · next hl => exact moves_recorded h (timebaseInRange_relocked (fun _ => by simp [hl]) (by simp)) (by simp) _
  · exact moves_marked h timebaseInRange_frameMark _

theorem moves_lineOrNothing (h : c → Coordinated s) : Moves c {} s {} s.lineOrNothing := by
  unfold State.lineOrNothing
  split
  · exact (Move.timebase { s.timebase with timer := 0 } fun hr => hr).one
  · next hl =>
    refine moves_marked h (fun hr => ?_) _
    obtain ⟨hline, hrest⟩ := hr
    exact ⟨by simp only [Timebase.lineMark]; omega, hrest⟩

theorem moves_expireLine (h : c → Coordinated s) : Moves c {} s {} s.expireLine := by
  unfold State.expireLine
  split
  · split
    · exact moves_generatedFrame h
    · exact moves_lineOrNothing h
  · exact moves_lineOrNothing h

theorem moves_takeFsync (h : c → Coordinated s) : Moves c {} s {} s.takeFsync := by
  unfold State.takeFsync
  split
  · exact .refl _ s
  · exact .refl _ s
  · next hl => exact moves_marked h (timebaseInRange_relocked (fun _ => by simp [hl]) (by simp)) _
  · exact moves_marked h timebaseInRange_frameMark _
  · next hl => exact moves_recorded h (timebaseInRange_relocked (fun _ => by simp [hl]) (by simp)) (by simp) _

/-! ## TRIG, deadlines and edges as they are sampled (R25, R135, R190) -/

theorem moves_takeTrig (h : c → Coordinated s) : Moves c {} s {} s.takeTrig := by
  refine (moves_fireGroups _).trans (moves_takeIfAppended (fun hc => ?_) _)
  refine coordinated_of_agree (h hc) ((coordinated_agree (h hc)).fireGroups _) (foldl_rest (fun s g => ?_) _ _)
  rw [firingNotice_eq]
  exact ⟨rfl, rfl⟩

theorem moves_deadline (h : c → Coordinated s) (g : GroupId) :
    Moves c {} s {} ((s.expiryNotice g).takeIfAppended s.launchQueue.length) := by
  refine (moves_expiryNotice (fun hc => coordinated_holdsReleasing (h hc)) g).trans (moves_takeIfAppended (fun hc => ?_) _)
  exact coordinated_of_agree (h hc) ((coordinated_agree (h hc)).expiryNotice g) (markNotice_rest (fun _ => false) s g)

theorem moves_sampleEdge (h : c → Coordinated s) (missed : Bool) (low high : Nat) {note : State → Bool → State}
    {edge : State → State} (hn : ∀ s b, Move c {} s {} (note s b)) (hq : ∀ s b, Quiet s (note s b))
    (he : ∀ s, (c → Coordinated s) → Moves c {} s {} (edge s)) :
    Moves c {} s {} (s.sampleEdge missed low high note edge) := by
  unfold State.sampleEdge
  split
  · exact (hn ..).one.trans (he _ fun hc => coordinated_quiet (h hc) (hq ..))
  · have used : Moves c {} s {} s.useFree := move_useFree.one
    split
    · exact (used.trans (hn ..).one).trans (he _ fun hc => coordinated_quiet (h hc) ((quiet_useFree s).trans (hq ..)))
    · exact used.trans (hn ..).one

theorem moves_whenRunning {event : State → State} (h : Moves c {} s {} (event s)) : Moves c {} s {} (s.whenRunning event) := by
  unfold State.whenRunning
  split
  · exact h
  · exact .refl _ s

/-! ## One CLK period (R89, R99, R100, R109) -/

theorem moves_timeOutIfDue (h : c → Coordinated s) (tag : TagId) : Moves c {} s {} (s.timeOutIfDue tag) := by
  rcases timeOutIfDue_cases s tag with ⟨-, e⟩ | ⟨-, e⟩ <;> rw [e]
  exact moves_timeOut h fun _ => rfl

theorem sound_timeOutIfDue (s : State) (tag : TagId) : Sound s (s.timeOutIfDue tag) := by
  rcases timeOutIfDue_cases s tag with ⟨-, e⟩ | ⟨-, e⟩ <;> rw [e]
  · exact sound_timeOut ..
  · exact .refl s

theorem moves_tbclkMayAdvance (h : c → Coordinated s) : Moves c {} s {} s.tbclkMayAdvance := by
  have used : Moves c {} s {} s.useFree := move_useFree.one
  unfold State.tbclkMayAdvance
  split
  · have advanced : Moves c {} s.useFree {} (s.useFree.setTimebase { s.useFree.timebase with
        timer := s.useFree.timebase.timer + 1 }) :=
      (Move.timebase { s.useFree.timebase with timer := s.useFree.timebase.timer + 1 } fun hr => hr).one
    refine used.trans ?_
    rcases tbclkPeriod_cases s.useFree with ⟨-, e⟩ | ⟨-, e⟩ <;> rw [e]
    · exact advanced
    · exact advanced.trans (moves_expireLine fun hc =>
        coordinated_quiet (h hc) ((quiet_useFree s).trans (quiet_setTimebase ..)))
  · exact used

theorem moves_clockPeriod (h : c → Coordinated s) : Moves c {} s {} s.clockPeriod := by
  have advanced (hc : c) : Coordinated s.takeNext.advanceTimers :=
    coordinated_quiet ((sound_takeNext s).coordinated (h hc)) (quiet_setPort ..)
  have timed := Moves.foldl (c := c) (a := {}) (Q := fun s => c → Coordinated s) (fun s tag hs => moves_timeOutIfDue hs tag)
    (fun s tag hs hc => (sound_timeOutIfDue s tag).coordinated (hs hc)) allTags advanced
  refine (((moves_takeNext h).trans Move.timers.one).trans timed).trans (moves_tbclkMayAdvance fun hc => ?_)
  exact (Sound.foldl sound_timeOutIfDue allTags _).coordinated (advanced hc)

theorem moves_idle (h : c → Coordinated s) : Moves c {} s {} s.idle := by
  have clk : Moves c {} s {} (s.useFree.setClk (Config.clkRuns s.freeIndex)) := (Move.aside ..).one
  exact clk.trans (moves_whenRunning (moves_clockPeriod fun hc =>
    (sound_setClk _ _).coordinated (coordinated_quiet (h hc) (quiet_useFree s))))

end Sys2Proof.Machine
end

section
/-!
Every command and every step as a chain of moves (R10 to R181).
-/
namespace Sys2Proof.Machine

open Safety

variable {c : Prop} {s t : State} {g : GroupId}

/-! ## The group commands (R10 to R21) -/

/-- R2: the cap that a GROUP_CONFIG frame carries is 1 to 1024. -/
theorem groupConfigOf_cap {f : Frame} {r : GroupConfig} (h : groupConfigOf f = some r) : 1 ≤ r.cap ∧ r.cap ≤ 1024 := by
  unfold groupConfigOf at h
  split at h
  · split at h
    · next hr =>
      cases h
      exact hr
    · cases h
  · cases h

theorem moves_groupConfigReply (f : Frame) (s : State) (g : GroupId) : Moves c {} s {} (groupConfigReply f s g).state := by
  unfold groupConfigReply
  split
  · exact .refl _ s
  · next r hr =>
    split
    · next hs => exact (Move.configure g r hs (groupConfigOf_cap hr)).one
    · exact .refl _ s

theorem moves_groupOpenReply (s : State) (g : GroupId) : Moves c {} s {} (groupOpenReply s g).state := by
  unfold groupOpenReply
  split
  case h_1 => exact (move_modifyGroup (by intro _; rfl) (by intro _; rfl) (by simp [GroupRecord.openFromIdle])).one
  case h_2 => exact (move_modifyGroup (by intro _; rfl) (by intro _; rfl) (by simp [GroupRecord.reopen])).one
  all_goals exact .refl _ s

theorem moves_groupCloseReply (f : Frame) (s : State) (g : GroupId) : Moves c {} s {} (groupCloseReply f s g).state := by
  unfold groupCloseReply
  split
  · exact .refl _ s
  · split
    · split
      · exact .refl _ s
      · exact (move_modifyGroup (by intro _; rfl) (by intro _; rfl) (by simp [GroupRecord.close])).one
    · exact .refl _ s

/-- R19: an ARMED group goes to PENDING. -/
theorem coordinated_makePending (h : Coordinated s) (hs : (s.group g).state = .armed) : Coordinated (s.makePending g) :=
  coordinated_of_agree h ((coordinated_agree h).launch hs ((coordinated_shape h g).toPending hs) rfl) ⟨rfl, rfl⟩

theorem moves_armGroup (h : c → Coordinated s) (hs : (s.group g).state = .closed ∨ (s.group g).state = .faulted)
    (l : LaunchCondition) : Moves c {} s {} (s.armGroup g l) := by
  have armed (l : LaunchCondition) : Moves c {} s {} (s.modifyGroup g (GroupRecord.arm l)) :=
    (move_modifyGroup (by intro _; rfl) (by intro _; rfl) (by simp [GroupRecord.arm])).one
  have coordinated (hc : c) : Coordinated (s.modifyGroup g (GroupRecord.arm .immediate)) :=
    coordinated_setGroup (h hc) ((coordinated_shape (h hc) g).arm hs _) (by rcases hs with hs | hs <;> simp [hs])
      (by simp [GroupRecord.arm])
  unfold State.armGroup
  split
  · refine ((armed _).trans (moves_makePending g)).trans (moves_takeIfAppended (fun hc => ?_) _)
    exact coordinated_makePending (coordinated hc) (by simp [State.modifyGroup, GroupRecord.arm])
  · exact armed _

theorem moves_groupArmReply (h : c → Coordinated s) (f : Frame) (g : GroupId) :
    Moves c {} s {} (groupArmReply f s g).state := by
  unfold groupArmReply
  split
  · exact .refl _ s
  · split
    · next hs =>
      split
      · exact .refl _ s
      · exact moves_armGroup h ((canArm_iff _).mp hs) _
    · exact .refl _ s

theorem moves_groupDisarmReply (s : State) (g : GroupId) : Moves c {} s {} (groupDisarmReply s g).state := by
  have closed : Moves c {} s {} (s.modifyGroup g GroupRecord.toClosed) :=
    (move_modifyGroup (by intro _; rfl) (by intro _; rfl) (by simp [GroupRecord.toClosed])).one
  unfold groupDisarmReply
  split
  case h_1 => exact closed.trans (moves_breakSuccessors g)
  case h_2 => exact (closed.trans (move_setLaunchQueue _).one).trans (moves_breakSuccessors g)
  all_goals exact .refl _ s

theorem moves_groupLaunchReply (h : c → Coordinated s) (g : GroupId) : Moves c {} s {} (groupLaunchReply s g).state := by
  unfold groupLaunchReply
  split
  · next hs => exact (moves_makePending g).trans (moves_takeIfAppended (fun hc => coordinated_makePending (h hc) hs) _)
  · exact .refl _ s

/-- R90, R91: a stop with no write outstanding. -/
theorem moves_stopAtOnce (h : c → Coordinated s) (hs : s.engine.state = .settling ∨ s.engine.state = .draining)
    (hw : c → s.engine.write ≠ .issued) : Moves c {} s {} s.stopAtOnce := by
  have stops : Moves c {} s {} (s.setEngine { s.engine with state := .stopping, write := .none, copy := none, cause := some .discard }) :=
    (Move.context _ (fun _ => rfl) (fun _ => rfl) hw (by simp)).one
  have inHand (hc : c) : ∃ g, InHand (s.setEngine
      { s.engine with state := .stopping, write := .none, copy := none, cause := some .discard }) g := by
    obtain ⟨hcause, g, hg⟩ := coordinated_inHand_of_state (h hc) hs
    exact ⟨g, hg.setEngine hg.group (by simp [hcause])⟩
  refine (stops.trans (moves_endRelease rfl (fun _ => rfl) inHand fun _ => .inl rfl)).trans (moves_grantAll fun hc => ?_)
  obtain ⟨g, hg⟩ := inHand hc
  exact hg.endRelease (.inl rfl)

theorem moves_stopByDiscard (h : c → Coordinated s) : Moves c {} s {} s.stopByDiscard := by
  unfold State.stopByDiscard
  split
  case h_1 hs =>
    refine moves_stopAtOnce h (.inl hs) fun hc => ?_
    obtain ⟨-, -, -, -, hw, -⟩ := (contextWellFormed_settling hs).mp (h hc).context
    simp [hw]
  case h_2 hs _ =>
    refine (Move.stop fun hc => ?_).one
    obtain ⟨hcause, -⟩ := coordinated_inHand_of_state (h hc) (.inr hs)
    simp [hcause]
  case h_3 hs hw => exact moves_stopAtOnce h (.inr hs) fun _ => by simp [hw]
  case h_4 hs hw => exact moves_stopAtOnce h (.inr hs) fun _ => by simp [hw]
  all_goals exact .refl _ s

theorem moves_discard (h : c → Coordinated s) (g : GroupId) : Moves c {} s {} (s.discard g) := by
  have emptied (hs : (s.group g).state ≠ .releasing) : Moves c {} s {} (s.emptyGroup g) :=
    (Move.empty g fun hc _ hcause hg => hs (coordinated_holdsReleasing (h hc) g hg hcause)).one
  unfold State.discard
  split
  case h_1 => exact .refl _ s
  case h_2 hs => exact emptied (by simp [hs])
  case h_3 hs => exact emptied (by simp [hs])
  case h_4 hs => exact (emptied (by simp [hs])).trans (moves_breakSuccessors g)
  case h_5 hs => exact ((emptied (by simp [hs])).trans (move_setLaunchQueue _).one).trans (moves_breakSuccessors g)
  case h_6 =>
    split
    · exact moves_stopByDiscard h
    · exact .refl _ s
  case h_7 hs => exact emptied (by simp [hs])

/-! ## The commands for windows, points, the timebase, the memory port, the queue and the interrupt line -/

theorem moves_windowSetReply (f : Frame) (s : State) (w : Fin 16) : Moves c {} s {} (windowSetReply f s w).state := by
  unfold windowSetReply
  split
  · exact .refl _ s
  · next r hr =>
    split
    · exact .refl _ s
    · refine (Move.window w r fun _ => ?_).one
      unfold windowOf at hr
      split at hr
      · split at hr
        · next hrange =>
          cases hr
          exact hrange
        · cases hr
      · cases hr

theorem moves_windowClearReply (s : State) (w : Fin 16) : Moves c {} s {} (windowClearReply s w).state := by
  unfold windowClearReply
  split
  · exact .refl _ s
  · exact (Move.window w { s.window w with valid := false } fun h => h w).one

theorem moves_pointSetReply (f : Frame) (s : State) (p : Fin 8) : Moves c {} s {} (pointSetReply f s p).state := by
  unfold pointSetReply
  split
  · exact .refl _ s
  · next r hr =>
    refine (Move.point p r ?_).one
    unfold launchPointOf at hr
    split at hr
    · split at hr
      · next hline =>
        cases hr
        exact hline
      · cases hr
    · cases hr

theorem timebaseInRange_timebaseOf {f : Frame} {tb b : Timebase} (h : timebaseOf f tb = some b) (hr : TimebaseInRange tb) :
    TimebaseInRange b := by
  obtain ⟨hline, -⟩ := hr
  unfold timebaseOf at h
  split at h
  · next mode _ =>
    split at h
    · next hrange =>
      obtain ⟨hp, hl, hl', ht⟩ := hrange
      cases h
      refine ⟨hline, ?_, hp, Nat.le_of_lt_succ (f.half 3).isLt, hl, hl', ht⟩
      cases mode <;> simp
    · cases h
  · cases h

theorem moves_timebaseConfigReply (f : Frame) (s : State) : Moves c {} s {} (timebaseConfigReply f s).state := by
  unfold timebaseConfigReply
  split
  · exact .refl _ s
  · next b hb => exact (Move.timebase b (timebaseInRange_timebaseOf hb)).one

theorem moves_portConfigReply (f : Frame) (s : State) : Moves c {} s {} (portConfigReply (f.half 2).toNat s).state := by
  unfold portConfigReply
  split
  · exact .refl _ s
  · next h => exact (Move.timeout _ ⟨Nat.le_of_not_lt h, Nat.le_of_lt_succ (f.half 2).isLt⟩).one

/-- R155: a record leaves the queue with the counts reported with it. -/
theorem completionsInRange_popped {r : CompletionRecord} {rest : List CompletionRecord} (hq : s.completions.records = r :: rest)
    (h : CompletionsInRange s) :
    CompletionsInRange ((s.setCompletions s.irq ⟨rest, s.completions.lost,
      s.completions.urgent - if r.kind.isUrgent then 1 else 0⟩).setReported
        (if r.kind = .released then s.reported.tail else s.reported)) := by
  obtain ⟨hr, hl, hu, hn, ht, -⟩ := h
  rw [hq] at hr hu hn
  refine ⟨?_, hl, ?_, ?_, ht, rfl⟩ <;>
    simp only [State.setReported_completions, State.setReported_reported, State.setCompletions_completions]
  · exact Nat.le_of_succ_le hr
  · rw [hu, List.countP_cons]
    omega
  · rw [List.countP_cons] at hn
    split
    · next hk => simp [hn, hk]
    · next hk => simpa [hk] using hn

theorem moves_queuePopReply (s : State) : Moves c {} s {} (queuePopReply s).state := by
  cases hq : s.completions.records with
  | nil => rw [queuePopReply_of_empty hq]
  | cons r rest =>
    rw [queuePopReply_of_cons hq]
    exact (Move.record _ _ _ (completionsInRange_popped hq)).one

theorem completionsInRange_configured {f : Frame} {i : IrqConfig} (hi : irqConfigOf f = some i) (h : CompletionsInRange s) :
    CompletionsInRange (s.setCompletions i s.completions) := by
  obtain ⟨hr, hl, hu, hn, -, -⟩ := h
  refine ⟨hr, hl, hu, hn, ?_, rfl⟩
  unfold irqConfigOf at hi
  split at hi
  · split at hi
    · next hrange =>
      cases hi
      exact hrange
    · cases hi
  · cases hi

theorem moves_irqConfigReply (f : Frame) (s : State) : Moves c {} s {} (irqConfigReply f s).state := by
  unfold irqConfigReply
  split
  · exact .refl _ s
  · next i hi => exact (Move.record i _ s.reported (completionsInRange_configured hi)).one

/-! ## The resets (R177, R190) -/

theorem moves_softReset (h : c → Coordinated s) : Moves c {} s {} s.softReset :=
  (Move.softReset fun hc => (h hc).context).one

theorem moves_lowerResetPin (s : State) (n : Nat) : Moves c {} s {} (s.lowerResetPin n) := by
  have used : Moves c {} s {} s.useFree := move_useFree.one
  unfold State.lowerResetPin
  split
  · exact .refl _ s
  · split
    · exact Move.enterReset.one
    · split
      · exact used.trans Move.enterReset.one
      · exact used

/-! ## The commands as frames -/

theorem moves_takeFrame (h : c → Coordinated s) (code : Byte) (f : Frame) {act : State → Reply}
    (ha : ∀ s, (c → Coordinated s) → Moves c {} s {} (act s).state) : Moves c {} s {} (s.takeFrame code f act) := by
  rcases s.takeFrame_cases code f act with e | ⟨l, e⟩ | ⟨l, e⟩ <;> rw [e]
  · exact (move_setLink l).one
  · exact ((move_setLink _).one.trans (ha (s.receive code f) fun hc => coordinated_quiet (h hc) (quiet_setLink ..))).trans
      (move_setLink l).one

theorem moves_indexed (h : c → Coordinated s) (code : Byte) (f : Frame) {n : Nat} {act : State → Fin n → Reply}
    (ha : ∀ s i, (c → Coordinated s) → Moves c {} s {} (act s i).state) :
    Moves c {} s {} (s.takeFrame code f fun s => withIndex n f s (act s)) := by
  refine moves_takeFrame h code f fun s hs => ?_
  rcases withIndex_cases n f s (act s) with e | ⟨i, e⟩ <;> rw [e]
  · exact .refl _ s
  · exact ha s i hs

theorem moves_takeShortFrame (s : State) (n : Nat) : Moves c {} s {} (s.takeShortFrame n) := by
  unfold State.takeShortFrame
  split
  · exact .refl _ s
  · split
    · exact (move_setLink _).one
    · exact (move_setLink _).one

/-! ## Every command and every step -/

theorem moves_exec {i : Instr} (h : exec i s = .next t) (hs : c → Coordinated s) : Moves c {} s {} t := by
  cases i
  case nop f => cases h; exact moves_takeFrame hs _ f fun s _ => .refl _ s
  case bridgeStatus f => cases h; exact moves_takeFrame hs _ f fun s _ => .refl _ s
  case softReset f => cases h; exact moves_takeFrame hs _ f fun s hs => moves_softReset hs
  case groupConfig f => cases h; exact moves_indexed hs _ f fun s g _ => moves_groupConfigReply f s g
  case groupOpen f => cases h; exact moves_indexed hs _ f fun s g _ => moves_groupOpenReply s g
  case groupClose f => cases h; exact moves_indexed hs _ f fun s g _ => moves_groupCloseReply f s g
  case groupArm f => cases h; exact moves_indexed hs _ f fun s g hs => moves_groupArmReply hs f g
  case groupDisarm f => cases h; exact moves_indexed hs _ f fun s g _ => moves_groupDisarmReply s g
  case groupLaunch f => cases h; exact moves_indexed hs _ f fun s g hs => moves_groupLaunchReply hs g
  case groupDiscard f => cases h; exact moves_indexed hs _ f fun s g hs => moves_discard hs g
  case groupStatus f => cases h; exact moves_indexed hs _ f fun s _ _ => .refl _ s
  case entryRead f =>
    cases h
    refine moves_indexed hs _ f fun s g _ => ?_
    unfold entryReadReply
    split <;> exact .refl _ s
  case windowSet f => cases h; exact moves_indexed hs _ f fun s w _ => moves_windowSetReply f s w
  case windowClear f => cases h; exact moves_indexed hs _ f fun s w _ => moves_windowClearReply s w
  case windowRead f => cases h; exact moves_indexed hs _ f fun s _ _ => .refl _ s
  case pointSet f => cases h; exact moves_indexed hs _ f fun s p _ => moves_pointSetReply f s p
  case pointRead f => cases h; exact moves_indexed hs _ f fun s _ _ => .refl _ s
  case timebaseConfig f => cases h; exact moves_takeFrame hs _ f fun s _ => moves_timebaseConfigReply f s
  case timebaseRead f => cases h; exact moves_takeFrame hs _ f fun s _ => .refl _ s
  case timebaseLoad f =>
    cases h
    exact moves_takeFrame hs _ f fun s _ => (Move.timebase { s.timebase with pendingLoad := some (f.half 2) } fun h => h).one
  case portConfig f => cases h; exact moves_takeFrame hs _ f fun s _ => moves_portConfigReply f s
  case queuePop f => cases h; exact moves_takeFrame hs _ f fun s _ => moves_queuePopReply s
  case irqConfig f => cases h; exact moves_takeFrame hs _ f fun s _ => moves_irqConfigReply f s
  case unknownCmd code f =>
    simp only [exec, execUnknownCmd] at h
    split at h
    · cases h
    · cases h; exact moves_takeFrame hs _ f fun s _ => .refl _ s
  case frameWithoutCompleteByte bits => cases h; exact moves_takeShortFrame s _
  case powerOnReset => cases h; exact Move.enterReset.one
  case rstN n => cases h; exact moves_lowerResetPin s n
  case acceptance x =>
    simp only [exec, execAcceptance] at h
    split at h
    · next hx => cases h; exact moves_whenRunning (Move.accept x hx rfl).one
    · cases h
  case judgement => cases h; exact moves_whenRunning (moves_judge (between_betweenBeats c) rfl hs)
  case transactionResponse => cases h; exact moves_whenRunning (Move.respond rfl).one
  case grant => cases h; exact moves_whenRunning Move.grant.one
  case response tag answer data => cases h; exact moves_whenRunning (moves_takeResponse hs fun _ => rfl)
  case responseTimeout tag => cases h; exact moves_whenRunning (moves_timeOut hs fun _ => rfl)
  case taking => cases h; exact moves_whenRunning (moves_takeNext hs)
  case settlingEnd =>
    cases h
    refine moves_whenRunning ?_
    split
    · exact (moves_settleOn hs fun _ _ => rfl).trans (moves_grantAll fun hc => (sound_settleOn s).coordinated (hs hc))
    · exact .refl _ s
  case releaseCompletion =>
    cases h
    refine moves_whenRunning ?_
    split
    · next hw =>
      obtain ⟨hd, hw, -⟩ := (isWalked_iff s).mp hw
      have inHand (hc : c) := coordinated_inHand_of_state (hs hc) (.inr hd)
      refine (moves_endRelease rfl (fun _ => hw) (fun hc => (inHand hc).2) fun hc => .inr (by simp [(inHand hc).1])).trans
        (moves_grantAll fun hc => ?_)
      obtain ⟨hcause, g, hg⟩ := inHand hc
      exact hg.endRelease (.inr (by simp [hcause]))
    · exact .refl _ s
  case lineTimerExpiry => cases h; exact moves_whenRunning (moves_expireLine hs)
  case fsyncEdge low high =>
    cases h
    exact moves_whenRunning (moves_sampleEdge hs _ low high (fun _ _ => Move.aside ..) (fun _ _ => quiet_setMissed ..)
      fun s hs => moves_takeFsync hs)
  case trigEdge low high =>
    cases h
    refine moves_whenRunning ?_
    split
    · exact .refl _ s
    · have level : Moves c {} s {} (s.setTrigLevel (levelAfter s.trigLevel low high)) := (Move.aside ..).one
      exact level.trans (moves_sampleEdge (fun hc => coordinated_quiet (hs hc) (quiet_setTrigLevel ..)) _ low high
        (fun _ _ => Move.aside ..) (fun _ _ => quiet_setMissed ..) fun s hs => moves_takeTrig hs)
  case deadlineExpiry g => cases h; exact moves_whenRunning (moves_deadline hs g)
  case resetRelease trigHigh csLow =>
    cases h
    split
    · exact (Move.aside ..).one
    · exact .refl _ s

/-- Every step is a chain of moves. -/
theorem moves_step (h : step s = .next t) (hs : c → Coordinated s) : Moves c {} s {} t := by
  unfold step at h
  split at h
  · cases h
    exact moves_idle hs
  · next i rest _ =>
    have taken : Moves c {} s {} { s with pending := rest } := (Move.aside ..).one
    exact taken.trans (moves_exec h fun hc =>
      ⟨(hs hc).records, (hs hc).context, (hs hc).releasing, (hs hc).queue, (hs hc).fence⟩)

end Sys2Proof.Machine
end

section
/-!
What every step keeps of the staging store: the balance of the pool, the entries and the lists (R30 to R35, R52).
-/
namespace Sys2Proof.Machine

open Safety

variable {c : Prop} {a b : Stage} {s t : State} {g : GroupId}

/-! ## What a grant and an ended request leave as they are -/

/-- R98: a grant changes the memory port and the release context alone. -/
theorem grantOne_withSide (s : State) : ∃ p e, s.grantOne = s.withSide p e := by
  rcases grantOne_cases s with e | ⟨t, r, rest, -, -, -, e⟩ | ⟨t, x, -, -, -, -, e⟩ <;> rw [e]
  · exact ⟨s.port, s.engine, rfl⟩
  · exact ⟨_, s.engine, rfl⟩
  · exact ⟨_, _, rfl⟩

/-- What holds of a part whatever its memory port and its release context holds after a grant. -/
theorem grantOne_keeps {P : State → Prop} (hP : ∀ s p e, P s → P (s.withSide p e)) (h : P s) : P s.grantOne := by
  obtain ⟨p, e, he⟩ := grantOne_withSide s
  rw [he]
  exact hP s p e h

theorem group_enterReset (s : State) (g : GroupId) : s.enterReset.group g = {} := by
  simp [State.enterReset, State.group]

/-- A beat finishes, or is decided or dispatched: the transactions stay the same. -/
theorem mem_modifyIngress {id : Nat} {change : Ingress → Ingress} (hr : ∀ u, (change u).request = u.request) {v : Ingress}
    (h : v ∈ (s.modifyIngress id change).ingress) : ∃ u ∈ s.ingress, v.request = u.request := by
  obtain ⟨u, hu, rfl⟩ := List.mem_map.mp h
  refine ⟨u, hu, ?_⟩
  split
  · exact hr u
  · rfl

/-! ## The balance of the pool (R31) -/

theorem heldEntries_eq_sum (s : State) : heldEntries s = ∑ g : GroupId, (s.group g).entries.length := by
  simp only [heldEntries, allGroups, Fin.sum_univ_eight, List.map_cons, List.map_nil, List.sum_cons, List.sum_nil]
  omega

theorem heldEntries_setGroup (s : State) (g : GroupId) (r : GroupRecord) :
    heldEntries (s.setGroup g r) + (s.group g).entries.length = heldEntries s + r.entries.length := by
  have rest : ∑ k ∈ Finset.univ.erase g, ((s.setGroup g r).group k).entries.length =
      ∑ k ∈ Finset.univ.erase g, (s.group k).entries.length :=
    Finset.sum_congr rfl fun k hk => by rw [State.group_setGroup_ne s (Finset.ne_of_mem_erase hk)]
  rw [heldEntries_eq_sum, heldEntries_eq_sum, ← Finset.add_sum_erase _ _ (Finset.mem_univ g), rest,
    ← Finset.add_sum_erase _ (fun k => (s.group k).entries.length) (Finset.mem_univ g), State.group_setGroup_self]
  omega

theorem heldEntries_of_empty (h : ∀ g, (s.group g).entries = []) : heldEntries s = 0 := by
  simp [heldEntries_eq_sum, h]

/-- The free slots change by as many entries as the list of one group loses or gains. -/
theorem poolBalance_setGroup (h : PoolBalance s) {n : Nat} {r : GroupRecord}
    (hn : n + r.entries.length = s.free + (s.group g).entries.length) : PoolBalance ((s.setFree n).setGroup g r) := by
  have held : heldEntries ((s.setFree n).setGroup g r) + (s.group g).entries.length = heldEntries s + r.entries.length :=
    heldEntries_setGroup (s.setFree n) g r
  simp only [PoolBalance, State.setGroup_free, State.setFree_free] at h ⊢
  omega

theorem poolBalance_relisted (h : PoolBalance s) {r : GroupRecord} (hr : r.entries.length = (s.group g).entries.length) :
    PoolBalance (s.setGroup g r) :=
  poolBalance_setGroup h (n := s.free) (by rw [hr])

/-- R35 to R37: an add request merges, or takes one slot for one entry, or does nothing. -/
theorem poolBalance_addRequest (h : PoolBalance s) (g : GroupId) (address data : Word) (mask : Mask) :
    PoolBalance (s.addRequest g address data mask).1 := by
  rcases addRequest_cases s g address data mask with ⟨-, -, e⟩ | ⟨-, hr, e⟩ | ⟨-, -, e⟩ <;> rw [e]
  · exact poolBalance_relisted h (mergeInto_length ..)
  · have hfree := ((hasRoom_iff s g).mp hr).2
    exact poolBalance_setGroup h (by simp only [List.length_append, List.length_singleton]; omega)
  · exact h

theorem poolBalance_freeHead (h : PoolBalance s) (g : GroupId) : PoolBalance (s.freeHead g) := by
  rcases freeHead_cases s g with ⟨-, e⟩ | ⟨x, rest, hx, e⟩ <;> rw [e]
  · exact h
  · exact poolBalance_setGroup h (by simp only [hx, List.length_cons]; omega)

theorem poolBalance_move (hm : Move c a s b t) (h : PoolBalance s) : PoolBalance t := by
  cases hm
  case regroup g r _ he _ => exact poolBalance_relisted h (by rw [he])
  case configure => exact poolBalance_relisted h rfl
  case add => exact poolBalance_addRequest h ..
  case freeHead => exact poolBalance_freeHead h _
  case empty g _ => exact poolBalance_setGroup h (by simp [GroupRecord.toIdle])
  case softReset =>
    have empty : heldEntries s.softReset = 0 := heldEntries_of_empty fun g => by rw [softReset_group]; rfl
    simp only [PoolBalance, empty]
    rfl
  case enterReset =>
    have empty : heldEntries s.enterReset = 0 := heldEntries_of_empty fun g => by rw [group_enterReset]
    simp only [PoolBalance, empty]
    rfl
  case accept => unfold State.acceptTransaction; split <;> exact h
  case respond => unfold State.respond; split <;> [exact h; (split <;> exact h)]
  case handOver r _ => exact grantOne_keeps (P := PoolBalance) (fun _ _ _ h => h) h
  case grant => exact grantOne_keeps (P := PoolBalance) (fun _ _ _ h => h) h
  all_goals exact h

/-- Settles O52, move by move. -/
theorem poolBalanceIsKept : Obligations.PoolBalanceIsKept := by
  unfold Obligations.PoolBalanceIsKept
  intro s t hs h
  exact (moves_step (c := False) h False.elim).keeps (P := fun _ s => PoolBalance s) (fun hm => poolBalance_move hm) hs

/-! ## The bytes of an entry (R30, R34, R35) -/

theorem maskBits_or (m n : Mask) : maskBits (m ||| n) = maskBits m ||| maskBits n := by
  revert m n
  decide +kernel

/-- R34, R35: after a merge the bytes outside both masks hold what they held. -/
theorem mergeBytes_outside {m : Mask} {new old rest : Word} (h : old &&& rest = 0) :
    mergeBytes m new old &&& ~~~(maskBits m) &&& rest = 0 := by
  unfold mergeBytes
  ext i hi
  have hbit := congrArg (fun w : Word => w[i]) h
  simp only [BitVec.getElem_and, BitVec.getElem_or, BitVec.getElem_not] at hbit ⊢
  cases new[i] <;> cases (maskBits m)[i] <;> simp_all

theorem entryWellFormed_newEntry {address data : Word} {mask : Mask} (ha : address.toNat % 4 = 0) (hm : mask ≠ 0) :
    EntryWellFormed (newEntry address data mask) := by
  refine ⟨ha, hm, ?_⟩
  have outside := mergeBytes_outside (m := mask) (new := data) (old := 0) (rest := BitVec.allOnes 32) BitVec.zero_and
  rwa [BitVec.and_allOnes] at outside

theorem entryWellFormed_merge {e : Entry} (h : EntryWellFormed e) (data : Word) (mask : Mask) :
    EntryWellFormed (e.merge data mask) := by
  obtain ⟨ha, hm, hd⟩ := h
  refine ⟨ha, fun h0 => hm ?_, ?_⟩
  · exact (BitVec.or_eq_zero_iff.mp h0).1
  · have outside := mergeBytes_outside (m := mask) (new := data) hd
    rwa [BitVec.and_assoc, BitVec.and_comm (~~~maskBits mask), ← BitVec.not_or, ← maskBits_or] at outside

theorem forall_mergeInto {P : Entry → Prop} {data : Word} {mask : Mask} (hP : ∀ e, P e → P (e.merge data mask)) (address : Word)
    {l : List Entry} (h : ∀ e ∈ l, P e) : ∀ e ∈ mergeInto address data mask l, P e := by
  induction l with
  | nil => exact h
  | cons x l ih =>
    obtain ⟨hx, hl⟩ := List.forall_mem_cons.mp h
    unfold mergeInto
    split
    · exact List.forall_mem_cons.mpr ⟨hP x hx, hl⟩
    · exact List.forall_mem_cons.mpr ⟨hx, ih hl⟩

/-- R52: every beat of a transaction is at a word address. -/
theorem beatAddress_aligned {x : Transaction} (h : x.wellFormed = true) (k : Nat) : (x.beatAddress k).toNat % 4 = 0 := by
  have hs : x.start.toNat % 4 = 0 := by
    simp only [Transaction.wellFormed, Bool.and_eq_true, beq_iff_eq, decide_eq_true_eq] at h
    exact h.1.1
  simp only [Transaction.beatAddress, BitVec.toNat_add, BitVec.toNat_ofNat]
  omega

/-! ## The entries and the transactions (R30, R52) -/

theorem entriesWellFormed_relisted (h : EntriesWellFormed s) {r : GroupRecord} (hr : ∀ e ∈ r.entries, EntryWellFormed e) :
    EntriesWellFormed (s.setGroup g r) := by
  obtain ⟨he, hi⟩ := h
  refine ⟨fun k => ?_, hi⟩
  rw [State.group_setGroup]
  split
  · exact hr
  · exact he k

theorem entriesWellFormed_addRequest (h : EntriesWellFormed s) (g : GroupId) {address : Word} (data : Word) {mask : Mask}
    (ha : address.toNat % 4 = 0) (hm : mask ≠ 0) : EntriesWellFormed (s.addRequest g address data mask).1 := by
  rcases addRequest_cases s g address data mask with ⟨-, -, e⟩ | ⟨-, -, e⟩ | ⟨-, -, e⟩ <;> rw [e]
  · exact entriesWellFormed_relisted h (forall_mergeInto (fun e he => entryWellFormed_merge he data mask) address (h.1 g))
  · refine entriesWellFormed_relisted (s := s.setFree (s.free - 1)) h fun e he => ?_
    rcases List.mem_append.mp he with he | he
    · exact h.1 g e he
    · exact List.mem_singleton.mp he ▸ entryWellFormed_newEntry ha hm
  · exact h

theorem entriesWellFormed_freeHead (h : EntriesWellFormed s) (g : GroupId) : EntriesWellFormed (s.freeHead g) := by
  rcases freeHead_cases s g with ⟨-, e⟩ | ⟨x, rest, hx, e⟩ <;> rw [e]
  · exact h
  · exact entriesWellFormed_relisted (s := s.setFree (s.free + 1)) h fun y hy => h.1 g y (by rw [hx]; exact .tail _ hy)

/-- The results of the transactions change, and the store stays. -/
theorem entriesWellFormed_modifyIngress (h : EntriesWellFormed s) {id : Nat} {change : Ingress → Ingress}
    (hr : ∀ u, (change u).request = u.request) : EntriesWellFormed (s.modifyIngress id change) := by
  refine ⟨h.1, fun v hv => ?_⟩
  obtain ⟨u, hu, e⟩ := mem_modifyIngress hr hv
  exact e ▸ h.2 u hu

theorem entriesWellFormed_move (hm : Move c a s b t) (h : EntriesWellFormed s) : EntriesWellFormed t := by
  cases hm
  case regroup g r _ he _ => exact entriesWellFormed_relisted h (he ▸ h.1 g)
  case configure g _ _ _ => exact entriesWellFormed_relisted h (h.1 g)
  case add g address data mask hm _ hb _ =>
    obtain ⟨u, hu, k, rfl⟩ := hb
    exact entriesWellFormed_addRequest h g data (beatAddress_aligned (h.2 u hu) k) hm
  case freeHead => exact entriesWellFormed_freeHead h _
  case empty g _ =>
    exact entriesWellFormed_relisted (s := s.setFree _) h fun e he => absurd he (List.not_mem_nil)
  case softReset =>
    refine ⟨fun g e he => ?_, h.2⟩
    rw [softReset_group] at he
    exact absurd he List.not_mem_nil
  case enterReset =>
    refine ⟨fun g e he => ?_, fun u hu => absurd hu List.not_mem_nil⟩
    rw [group_enterReset] at he
    exact absurd he List.not_mem_nil
  case accept x hx _ =>
    unfold State.acceptTransaction
    split
    · refine ⟨h.1, fun u hu => ?_⟩
      rcases List.mem_append.mp hu with hu | hu
      · exact h.2 u hu
      · exact List.mem_singleton.mp hu ▸ hx
    · exact h
  case respond =>
    unfold State.respond
    split
    · exact h
    · next u rest hi =>
      split
      · exact ⟨h.1, fun v hv => h.2 v (by rw [hi]; exact .tail _ hv)⟩
      · exact h
  case passEnds => exact entriesWellFormed_modifyIngress h fun _ => rfl
  case headFails => exact entriesWellFormed_modifyIngress h fun _ => rfl
  case beatDecided => exact entriesWellFormed_modifyIngress h fun _ => rfl
  case judgingEnds => exact entriesWellFormed_modifyIngress h fun _ => rfl
  case handOver r _ => exact grantOne_keeps (P := EntriesWellFormed) (fun _ _ _ h => h) h
  case grant => exact grantOne_keeps (P := EntriesWellFormed) (fun _ _ _ h => h) h
  all_goals exact h

/-! ## The lists (R32, R35) -/

theorem listsWithinCap_relisted (h : ListsWithinCap s) {r : GroupRecord} (hr : ListWithinCap r) :
    ListsWithinCap (s.setGroup g r) := by
  intro k
  rw [State.group_setGroup]
  split
  · exact hr
  · exact h k

theorem listWithinCap_of_empty {r : GroupRecord} (he : r.entries = []) (hc : 1 ≤ r.config.cap ∧ r.config.cap ≤ 1024) :
    ListWithinCap r := by
  simp [ListWithinCap, he, hc]

theorem listsWithinCap_addRequest (h : ListsWithinCap s) (g : GroupId) (hs : (s.group g).state ≠ .idle) (address data : Word)
    (mask : Mask) : ListsWithinCap (s.addRequest g address data mask).1 := by
  obtain ⟨-, hl, hlo, hhi, hn⟩ := h g
  rcases addRequest_cases s g address data mask with ⟨-, -, e⟩ | ⟨hnew, hroom, e⟩ | ⟨-, -, e⟩ <;> rw [e]
  · exact listsWithinCap_relisted h ⟨fun h => absurd h hs, by rwa [mergeInto_length], hlo, hhi,
      by rwa [mergeInto_addresses]⟩
  · have hcap := ((hasRoom_iff s g).mp hroom).1
    refine listsWithinCap_relisted (s := s.setFree (s.free - 1)) h ⟨fun h => absurd h hs, ?_, hlo, hhi, fun hm => ?_⟩
    · simpa using hcap
    · have fresh : address ∉ (s.group g).entries.map Entry.address := by
        have hmode : (s.group g).config.mode = .coalesce := hm
        simpa using hnew.resolve_left (by simp [hmode])
      simp only [List.map_append, List.map_cons, List.map_nil, newEntry]
      exact (hn hm).concat fresh |> fun hnd => by simpa using hnd
  · exact h

theorem listsWithinCap_freeHead (h : ListsWithinCap s) (g : GroupId) : ListsWithinCap (s.freeHead g) := by
  rcases freeHead_cases s g with ⟨-, e⟩ | ⟨x, rest, hx, e⟩ <;> rw [e]
  · exact h
  · obtain ⟨hi, hl, hlo, hhi, hn⟩ := h g
    rw [hx] at hi hl hn
    exact listsWithinCap_relisted (s := s.setFree (s.free + 1)) h ⟨fun h => absurd (hi h) (by simp),
      Nat.le_of_succ_le hl, hlo, hhi, fun hm => (hn hm).of_cons⟩

theorem listsWithinCap_move (hm : Move c a s b t) (h : ListsWithinCap s) : ListsWithinCap t := by
  cases hm
  case regroup g r hc he hi =>
    obtain ⟨hidle, hl, hlo, hhi, hn⟩ := h g
    exact listsWithinCap_relisted h ⟨fun hs => he.trans (hidle (hi hs)), by rwa [he, hc], by rwa [hc], by rwa [hc],
      by rwa [he, hc]⟩
  case configure g config hc hi => exact listsWithinCap_relisted h (listWithinCap_of_empty ((h g).1 hi) hc)
  case add g address data mask _ ho _ _ => exact listsWithinCap_addRequest h g (by simp [ho]) address data mask
  case freeHead => exact listsWithinCap_freeHead h _
  case empty g _ =>
    obtain ⟨-, -, hlo, hhi, -⟩ := h g
    exact listsWithinCap_relisted (s := s.setFree _) h (listWithinCap_of_empty rfl ⟨hlo, hhi⟩)
  case softReset =>
    intro g
    obtain ⟨-, -, hlo, hhi, -⟩ := h g
    rw [softReset_group]
    exact listWithinCap_of_empty rfl ⟨hlo, hhi⟩
  case enterReset =>
    intro g
    rw [group_enterReset]
    exact listWithinCap_of_empty rfl (by decide)
  case accept => unfold State.acceptTransaction; split <;> exact h
  case respond => unfold State.respond; split <;> [exact h; (split <;> exact h)]
  case handOver r _ => exact grantOne_keeps (P := ListsWithinCap) (fun _ _ _ h => h) h
  case grant => exact grantOne_keeps (P := ListsWithinCap) (fun _ _ _ h => h) h
  all_goals exact h

/-- Settles O53, move by move. -/
theorem entriesAndListsStayWellFormed : Obligations.EntriesAndListsStayWellFormed := by
  unfold Obligations.EntriesAndListsStayWellFormed
  refine ⟨fun s t hs _ h => ?_, fun s t hs h => ?_⟩
  · exact (moves_step (c := False) h False.elim).keeps (P := fun _ s => EntriesWellFormed s)
      (fun hm => entriesWellFormed_move hm) hs
  · exact (moves_step (c := False) h False.elim).keeps (P := fun _ s => ListsWithinCap s) (fun hm => listsWithinCap_move hm) hs

end Sys2Proof.Machine
end

section
/-!
What every step keeps of the release write and its tag (R46, R80, R84, R95, R99), seen through what the tags carry.
-/
namespace Sys2Proof.Machine

open Safety

variable {c : Prop} {a b : Stage} {s t : State} {g : GroupId}

/-! ## A release write carries the entry that stands next (R84) -/

/-- R84: the next entry is looked up in the lists by the release context. -/
theorem nextEntry_congr (hl : ∀ g, s.engine.group = some g → (t.group g).entries = (s.group g).entries)
    (hg : t.engine.group = s.engine.group) (hk : t.engine.kind = s.engine.kind) (hc : t.engine.cursor = s.engine.cursor) :
    t.nextEntry = s.nextEntry := by
  unfold State.nextEntry
  rw [hg, hk, hc]
  cases hs : s.engine.group with
  | none => rfl
  | some g =>
    cases s.engine.kind with
    | none => rfl
    | some kind => cases kind <;> simp only [hl g hs]

/-- The write in hand stays, and so does the list that it is taken from. -/
theorem writeCarries_congr (h : WriteCarriesHeldEntry s) (hw : t.engine.write ≠ .none → s.engine.write ≠ .none)
    (hc : t.engine.cause ≠ some .softReset → s.engine.cause ≠ some .softReset) (hcopy : t.engine.copy = s.engine.copy)
    (hn : t.engine.write ≠ .none → t.engine.cause ≠ some .softReset → t.nextEntry = s.nextEntry) :
    WriteCarriesHeldEntry t := by
  intro h1 h2
  rw [hn h1 h2, hcopy]
  exact h (hw h1) (hc h2)

/-- The list of a group changes from which no release write is in hand. -/
theorem writeCarries_relisted (h : WriteCarriesHeldEntry s) {r : GroupRecord} {n : Nat}
    (hg : s.engine.write ≠ .none → s.engine.cause ≠ some .softReset → s.engine.group = some g → r.entries = (s.group g).entries) :
    WriteCarriesHeldEntry ((s.setFree n).setGroup g r) := by
  refine writeCarries_congr h id id rfl fun hw hc => nextEntry_congr (fun k hk => ?_) rfl rfl rfl
  rw [State.group_setGroup]
  split
  · next e => exact e ▸ hg hw hc (e ▸ hk)
  · rfl

theorem writeCarries_grantOne (h : WriteCarriesHeldEntry s) : WriteCarriesHeldEntry s.grantOne := by
  rcases grantOne_cases s with e | ⟨tag, r, rest, -, -, -, e⟩ | ⟨tag, x, -, hw, -, -, e⟩ <;> rw [e]
  · exact h
  · exact h
  · exact fun _ hc => h (by simp [hw]) hc

theorem writeGone_cases (e : Engine) : e.writeGone = { e with write := .none, copy := none } ∨ e.writeGone = e := by
  unfold Engine.writeGone
  split
  · exact .inl rfl
  · exact .inl rfl
  · exact .inr rfl

/-- R92: SOFT_RESET leaves a write in hand only of a release that it has stopped. -/
theorem softReset_write {e : Engine} (h : ContextWellFormed e) :
    (e.softReset.write = .none ∧ e.softReset.copy = none ∧ e.write ≠ .issued) ∨
      (e.softReset.write = .issued ∧ e.write = .issued ∧ e.softReset.copy = e.copy ∧ e.softReset.cause = some .softReset) := by
  obtain ⟨hidle, -, -, -, hsettling, hstopping⟩ := h
  unfold Engine.softReset
  split
  · next hs => exact .inl (by simp [hidle hs])
  · next hs => exact .inl ⟨rfl, rfl, by simp [(hsettling hs).1]⟩
  · next hw => exact .inr ⟨hw, hw, rfl, rfl⟩
  · next hw => exact .inl ⟨rfl, rfl, by simp [hw]⟩
  · next hw => exact .inl ⟨rfl, rfl, by simp [hw]⟩
  · next hs => exact .inr ⟨hstopping hs, hstopping hs, rfl, rfl⟩

theorem writeCarries_move (hc : c) (hm : Move c a s b t) (h : WriteCarriesHeldEntry s) : WriteCarriesHeldEntry t := by
  cases hm
  case regroup g r _ he _ => exact writeCarries_relisted (n := s.free) h fun _ _ _ => he
  case configure => exact writeCarries_relisted (n := s.free) h fun _ _ _ => rfl
  case add g address data mask _ _ _ held =>
    have inHand {e : List Entry} (_ : s.engine.write ≠ .none) (hcause : s.engine.cause ≠ some .softReset)
        (hg : s.engine.group = some g) : e = (s.group g).entries := absurd (held hc hg) hcause
    rcases addRequest_cases s g address data mask with ⟨-, -, e⟩ | ⟨-, -, e⟩ | ⟨-, -, e⟩ <;> rw [e]
    · exact writeCarries_relisted (n := s.free) h inHand
    · exact writeCarries_relisted h inHand
    · exact h
  case freeHead g hw =>
    intro hn
    rw [freeHead_engine] at hn
    exact absurd (hw hc) hn
  case empty g held => exact writeCarries_relisted h fun hw hcause hg => absurd hg (held hc hw hcause)
  case softReset hx =>
    intro hw hcause
    rcases softReset_write (hx hc) with ⟨h0, -⟩ | ⟨-, -, -, h0⟩
    · exact absurd h0 hw
    · exact absurd h0 hcause
  case enterReset => exact fun hw => absurd rfl hw
  case accept => unfold State.acceptTransaction; split <;> exact h
  case respond => unfold State.respond; split <;> [exact h; (split <;> exact h)]
  case context hw _ _ _ => exact fun hn => absurd (hw hc) hn
  case request e he _ => exact fun _ _ => he
  case stop hcause => exact writeCarries_congr h id (fun _ => hcause hc) rfl fun _ _ => nextEntry_congr (fun _ _ => rfl) rfl rfl rfl
  case handOver r _ => exact writeCarries_grantOne h
  case grant => exact writeCarries_grantOne h
  case writeEnds =>
    rcases writeGone_cases s.engine with e | e <;> rw [e]
    · exact fun hn => absurd rfl hn
    · exact h
  all_goals exact h

/-! ## What the tags carry (R95) -/

/-- R95: the request that a tag carries. -/
def TagState.request? : TagState → Option PortRequest
  | .free => none
  | .busy request _ _ => some request
  | .abandoned => none

/-- The memory port and the release write as the claims about them see them. -/
@[ext] structure PortView where
  /-- the request of each tag that has not ended -/
  carried : TagId → Option PortRequest
  waiting : List PassRequest
  settle : Vector Nat 8
  write : WriteState
  copy : Option Entry

/-- The view of a part in which the request on the tag `ending` has ended. -/
def State.portView (s : State) (ending : Option TagId) : PortView where
  carried tag := if ending = some tag then none else (s.tag tag).request?
  waiting := s.port.waiting
  settle := s.port.settle
  write := s.engine.write
  copy := s.engine.copy

namespace PortView

/-- The request that a tag carries changes. -/
def carry (v : PortView) (tag : TagId) (request : Option PortRequest) : PortView :=
  { v with carried := Function.update v.carried tag request }

/-- What one move can do to the memory port and the release write of a coordinated part. -/
inductive Step : PortView → PortView → Prop
  | handed {v : PortView} (r : PassRequest) :
      Step v { v with waiting := v.waiting ++ [r], settle := changeSettle r.mark (fun n => n + 1) v.settle }
  | issuedPass {v : PortView} (tag : TagId) (r : PassRequest) (rest : List PassRequest) (free : v.carried tag = none)
      (waiting : v.waiting = r :: rest) : Step v { v.carry tag (some (.passThrough r)) with waiting := rest }
  | issuedRelease {v : PortView} (tag : TagId) (e : Entry) (free : v.carried tag = none) (write : v.write = .requested)
      (copy : v.copy = some e) : Step v { v.carry tag (some (.release e)) with write := .issued }
  | passEnded {v : PortView} (tag : TagId) (r : PassRequest) (busy : v.carried tag = some (.passThrough r)) :
      Step v { v.carry tag none with settle := changeSettle r.mark (fun n => n - 1) v.settle }
  | writeEnded {v : PortView} (tag : TagId) (e : Entry) (write : WriteState) (copy : Option Entry)
      (busy : v.carried tag = some (.release e)) (gone : v.write = .issued → write = .none ∧ copy = none) :
      Step v { v.carry tag none with write := write, copy := copy }
  | dropped {v : PortView} (write : v.write ≠ .issued) : Step v { v with write := .none, copy := none }
  | asked {v : PortView} (e : Entry) (write : v.write = .none) : Step v { v with write := .requested, copy := some e }
  | cleared {v : PortView} : Step v
      { carried := fun _ => none, waiting := [], settle := Vector.replicate 8 0, write := .none, copy := none }

abbrev Steps : PortView → PortView → Prop := Relation.ReflTransGen Step

theorem Steps.keeps {P : PortView → Prop} (hP : ∀ {v w}, Step v w → P v → P w) {v w : PortView} (h : Steps v w) (hv : P v) :
    P w := by
  induction h with
  | refl => exact hv
  | tail _ hs ih => exact hP hs ih

end PortView

/-- A tag whose request has ended is not FREE yet (log 19). -/
def EndingHeld (a : Stage) (s : State) : Prop := ∀ tag, a.ending = some tag → s.tag tag ≠ .free

/-- The tags of `t` are those of `s` but for one. -/
theorem tag_of_set {tag : TagId} {x : TagState} (h : t.port.tags = s.port.tags.set tag.val x) (k : TagId) :
    t.tag k = if k = tag then x else s.tag k := by
  unfold State.tag
  rw [h]
  by_cases hk : k = tag
  · simp [hk]
  · have hne : tag.val ≠ k.val := fun e => hk (Fin.ext e.symm)
    simp [hk, hne]

/-- What is carried once a FREE tag has been given a request. -/
theorem carried_issued (h : EndingHeld a s) {tag : TagId} (hf : s.tag tag = .free) {request : PortRequest} {n m : Nat}
    (ht : t.port.tags = s.port.tags.set tag.val (.busy request n m)) :
    (t.portView a.ending).carried = Function.update (s.portView a.ending).carried tag (some request) := by
  have hne : a.ending ≠ some tag := fun he => h tag he hf
  funext k
  simp only [State.portView, tag_of_set ht k, Function.update_apply]
  by_cases hk : k = tag
  · simp [hk, hne, TagState.request?]
  · simp [hk]

theorem endingHeld_issued (h : EndingHeld a s) {tag : TagId} (hf : s.tag tag = .free) {x : TagState}
    (ht : t.port.tags = s.port.tags.set tag.val x) : EndingHeld a t := by
  intro k hk
  have hne : k ≠ tag := fun e => h k hk (by rw [e, hf])
  rw [tag_of_set ht k, if_neg hne]
  exact h k hk

theorem carried_of_free {tag : TagId} (hf : s.tag tag = .free) (ending : Option TagId) :
    (s.portView ending).carried tag = none := by
  simp [State.portView, hf, TagState.request?]

theorem steps_grantOne (h : EndingHeld a s) :
    EndingHeld a s.grantOne ∧ PortView.Steps (s.portView a.ending) (s.grantOne.portView a.ending) := by
  rcases grantOne_cases s with e | ⟨tag, r, rest, ht, hw, -, e⟩ | ⟨tag, x, ht, hw, hx, -, e⟩
  · rw [e]
    exact ⟨h, .refl⟩
  · have tags : s.grantOne.port.tags = s.port.tags.set tag.val (.busy (.passThrough r) 0 s.port.timeout) := by rw [e]; rfl
    have view : s.grantOne.portView a.ending =
        { (s.portView a.ending).carry tag (some (.passThrough r)) with waiting := rest } :=
      PortView.ext (carried_issued h ht.1 tags) (by rw [e]; rfl) (by rw [e]; rfl) (by rw [e]; rfl) (by rw [e]; rfl)
    rw [view]
    exact ⟨endingHeld_issued h ht.1 tags, .single (.issuedPass tag r rest (carried_of_free ht.1 _) hw)⟩
  · have tags : s.grantOne.port.tags = s.port.tags.set tag.val (.busy (.release x) 0 s.port.timeout) := by rw [e]; rfl
    have view : s.grantOne.portView a.ending =
        { (s.portView a.ending).carry tag (some (.release x)) with write := .issued } :=
      PortView.ext (carried_issued h ht.1 tags) (by rw [e]; rfl) (by rw [e]; rfl) (by rw [e]; rfl) (by rw [e]; rfl)
    rw [view]
    exact ⟨endingHeld_issued h ht.1 tags, .single (.issuedRelease tag x (carried_of_free ht.1 _) hw hx)⟩

/-- The request that a tag carries has ended, and the tag is FREE or ABANDONED only later. -/
theorem carried_ended (hf : a.ending = none) {tag : TagId} :
    (s.portView (some tag)).carried = Function.update (s.portView a.ending).carried tag none := by
  funext k
  simp only [State.portView, hf, Function.update_apply, Option.some_inj]
  by_cases hk : k = tag
  · simp [hk]
  · simp [hk, Ne.symm hk]

/-- A tag changes its state that carries no request that has not ended. -/
theorem portView_setTag {tag : TagId} (h : (s.portView a.ending).carried tag = none) (he : a.ending = none ∨ a.ending = some tag)
    {x : TagState} (hx : x.request? = none) : (s.setTag tag x).portView none = s.portView a.ending := by
  refine PortView.ext (funext fun k => ?_) rfl rfl rfl rfl
  have tags : (s.setTag tag x).port.tags = s.port.tags.set tag.val x := rfl
  simp only [State.portView, tag_of_set tags k]
  by_cases hk : k = tag
  · subst hk
    simpa [hx, State.portView] using h.symm
  · have hne : a.ending ≠ some k := by
      rcases he with he | he <;> simp [he, Ne.symm hk]
    simp [hk, hne]

theorem request?_advance (x : TagState) : x.advance.request? = x.request? := by cases x <;> rfl

theorem tag_advanceTimers (s : State) (tag : TagId) : s.advanceTimers.tag tag = (s.tag tag).advance := Vector.getElem_map ..

theorem steps_move (hc : c) (hm : Move c a s b t) (h : EndingHeld a s) :
    EndingHeld b t ∧ PortView.Steps (s.portView a.ending) (t.portView b.ending) := by
  have released {s : State} : EndingHeld { a with ending := none } s := fun tag ht => by simp at ht
  cases hm
  case add g address data mask _ _ _ _ =>
    rcases addRequest_cases s g address data mask with ⟨-, -, e⟩ | ⟨-, -, e⟩ | ⟨-, -, e⟩ <;> rw [e] <;> exact ⟨h, .refl⟩
  case freeHead g _ =>
    rcases freeHead_cases s g with ⟨-, e⟩ | ⟨x, rest, -, e⟩ <;> rw [e] <;> exact ⟨h, .refl⟩
  case accept => unfold State.acceptTransaction; split <;> exact ⟨h, .refl⟩
  case respond => unfold State.respond; split <;> [exact ⟨h, .refl⟩; (split <;> exact ⟨h, .refl⟩)]
  case softReset hx =>
    refine ⟨h, ?_⟩
    rcases softReset_write (hx hc) with ⟨hw, hcopy, hni⟩ | ⟨hw, hi, hcopy, -⟩
    · have view : s.softReset.portView none = { s.portView none with write := .none, copy := none } :=
        PortView.ext rfl rfl rfl hw hcopy
      rw [view]
      exact .single (.dropped hni)
    · have view : s.softReset.portView none = s.portView none := PortView.ext rfl rfl rfl (hw.trans hi.symm) hcopy
      rw [view]
  case enterReset =>
    refine ⟨fun tag ht => by simp at ht, ?_⟩
    have view : s.enterReset.portView none =
        { carried := fun _ => none, waiting := [], settle := Vector.replicate 8 0, write := .none, copy := none } := by
      refine PortView.ext (funext fun k => ?_) rfl rfl rfl rfl
      simp [State.portView, State.enterReset, State.tag, TagState.request?]
    rw [view]
    exact .single .cleared
  case timers =>
    have view : s.advanceTimers.portView a.ending = s.portView a.ending := by
      refine PortView.ext (funext fun k => ?_) rfl rfl rfl rfl
      simp only [State.portView, tag_advanceTimers, request?_advance]
    rw [view]
    refine ⟨fun tag ht => ?_, .refl⟩
    rw [tag_advanceTimers]
    have hne := h tag ht
    revert hne
    cases s.tag tag <;> simp [TagState.advance]
  case context e hw hcopy hi _ =>
    have view : (s.setEngine e).portView a.ending = { s.portView a.ending with write := .none, copy := none } :=
      PortView.ext rfl rfl rfl (hw hc) (hcopy hc)
    rw [view]
    exact ⟨h, .single (.dropped (hi hc))⟩
  case request e _ hw => exact ⟨h, .single (.asked e (hw hc))⟩
  case handOver r _ =>
    have granted := steps_grantOne (a := a) (s := s.setPort { s.port with
      waiting := s.port.waiting ++ [r], settle := changeSettle r.mark (fun n => n + 1) s.port.settle }) h
    exact ⟨granted.1, .head (.handed r) granted.2⟩
  case grant => exact steps_grantOne h
  case passEnds tag r n m answer data hf ht =>
    have view : (s.endPass r answer data).portView (some tag) = { (s.portView a.ending).carry tag none with
        settle := changeSettle r.mark (fun n => n - 1) s.port.settle } :=
      PortView.ext (carried_ended hf) rfl rfl rfl rfl
    refine ⟨fun k hk => ?_, .single ?_⟩
    · obtain rfl := Option.some_inj.mp hk
      exact fun e => by cases ht.symm.trans e
    · rw [view]
      exact .passEnded tag r (by simp [State.portView, hf, ht, TagState.request?])
  case writeEnds tag e n m hf ht hx =>
    have gone : s.engine.write = .issued → s.engine.writeGone.write = .none ∧ s.engine.writeGone.copy = none := by
      obtain ⟨hidle, hgroup, -, -, hsettling, -⟩ := hx hc
      intro hi
      unfold Engine.writeGone
      split
      · exact ⟨rfl, rfl⟩
      · exact ⟨rfl, rfl⟩
      · next hd hs =>
        cases hst : s.engine.state with
        | idle => simp [hidle hst] at hi
        | settling => simp [(hsettling hst).1] at hi
        | draining =>
          obtain ⟨g, hg⟩ := Option.isSome_iff_exists.mp (hgroup (by simp [hst])).1
          exact absurd hg (hd g hst)
        | stopping =>
          obtain ⟨g, hg⟩ := Option.isSome_iff_exists.mp (hgroup (by simp [hst])).1
          exact absurd hg (hs g hst)
    have view : (s.setEngine s.engine.writeGone).portView (some tag) = { (s.portView a.ending).carry tag none with
        write := s.engine.writeGone.write, copy := s.engine.writeGone.copy } :=
      PortView.ext (carried_ended hf) rfl rfl rfl rfl
    refine ⟨fun k hk => ?_, .single ?_⟩
    · obtain rfl := Option.some_inj.mp hk
      exact fun e => by cases ht.symm.trans e
    · rw [view]
      exact .writeEnded tag e _ _ (by simp [State.portView, hf, ht, TagState.request?]) gone
  case tagFreed tag ended =>
    have view : (s.setTag tag .free).portView none = s.portView a.ending := by
      rcases ended with he | ⟨he, ht⟩
      · exact portView_setTag (by simp [State.portView, he]) (.inr he) rfl
      · exact portView_setTag (by simp [State.portView, he, ht, TagState.request?]) (.inl he) rfl
    exact ⟨released, by rw [view]⟩
  case tagAbandoned tag he =>
    have view : (s.setTag tag .abandoned).portView none = s.portView a.ending :=
      portView_setTag (by simp [State.portView, he]) (.inr he) rfl
    exact ⟨released, by rw [view]⟩
  all_goals exact ⟨h, .refl⟩

/-- The steps of the memory port and the release write that one step of a coordinated part is made of. -/
theorem steps_step (h : step s = .next t) (hs : Coordinated s) : PortView.Steps (s.portView none) (t.portView none) :=
  ((moves_step (c := True) h fun _ => hs).keeps
    (P := fun a u => EndingHeld a u ∧ PortView.Steps (s.portView none) (u.portView a.ending))
    (fun hm hP => ⟨(steps_move trivial hm hP.1).1, hP.2.trans (steps_move trivial hm hP.1).2⟩)
    ⟨fun tag ht => by simp at ht, .refl⟩).2

end Sys2Proof.Machine
end

section
/-!
What every step keeps of the memory port: the tag of the release write and its copy, the settle counts, and that no grant is
due (R65, R80, R83, R95 to R99).
-/
namespace Sys2Proof.Machine

open Safety

variable {c : Prop} {a b : Stage} {s t : State} {g : GroupId}

/-! ## Counting what the tags carry -/

/-- The request is a release write. -/
def PortRequest.isRelease : PortRequest → Bool
  | .passThrough _ => false
  | .release _ => true

/-- R97: the request carries the group as its settle mark. -/
def PortRequest.marks (g : GroupId) : PortRequest → Bool
  | .passThrough r => passMarks g r
  | .release _ => false

theorem tagReleases_eq (x : TagState) : tagReleases x = x.request?.any PortRequest.isRelease := by
  rcases x with _ | ⟨_ | _, _, _⟩ | _ <;> rfl

theorem tagMarks_eq (g : GroupId) (x : TagState) : tagMarks g x = x.request?.any (PortRequest.marks g) := by
  rcases x with _ | ⟨_ | _, _, _⟩ | _ <;> rfl

/-- Two counts over the tags whose predicates agree but for one tag. -/
theorem countP_allTags {p q : TagId → Bool} (tag : TagId) (h : ∀ k, k ≠ tag → p k = q k) :
    allTags.countP p + (q tag).toNat = allTags.countP q + (p tag).toNat := by
  have h0 := h 0
  have h1 := h 1
  have h2 := h 2
  have h3 := h 3
  fin_cases tag <;> simp [allTags, List.countP_cons, Bool.toNat, Bool.cond_eq_ite] at h0 h1 h2 h3 ⊢ <;> simp only [*] <;> omega

namespace PortView

variable {v w : PortView}

/-- The number of tags that carry such a request. -/
def count (v : PortView) (p : PortRequest → Bool) : Nat := allTags.countP fun tag => (v.carried tag).any p

theorem count_carry (v : PortView) (tag : TagId) (request : Option PortRequest) (p : PortRequest → Bool) :
    (v.carry tag request).count p + ((v.carried tag).any p).toNat = v.count p + (request.any p).toNat := by
  have h := countP_allTags (p := fun k => ((v.carry tag request).carried k).any p) (q := fun k => (v.carried k).any p) tag
    fun k hk => by simp [carry, Function.update_of_ne hk]
  rwa [show (v.carry tag request).carried tag = request from Function.update_self ..] at h

theorem not_carried_of_count {p : PortRequest → Bool} (h : v.count p = 0) {tag : TagId} {request : PortRequest}
    (hc : v.carried tag = some request) : p request = false := by
  have member (k : TagId) : k ∈ allTags := by revert k; decide
  simpa [hc] using List.countP_eq_zero.mp h tag (member tag)

/-! ## The tag of the release write (R80, R95, R99) -/

/-- R80, R95: the write state is ISSUED exactly while one tag carries a release write. -/
def Issued (v : PortView) : Prop := v.count PortRequest.isRelease = if v.write = .issued then 1 else 0

/-- R80, R99: a release write on a tag carries the write copy. -/
def CarriesCopy (v : PortView) : Prop := ∀ tag e, v.carried tag = some (.release e) → v.copy = some e

theorem Issued.no_release (h : v.Issued) (hw : v.write ≠ .issued) (tag : TagId) (e : Entry) :
    v.carried tag ≠ some (.release e) := fun hc => by
  have h0 := not_carried_of_count (h.trans (if_neg hw)) hc
  simp [PortRequest.isRelease] at h0

theorem Step.issued (h : Step v w) (hv : v.Issued) : w.Issued := by
  unfold Issued at hv ⊢
  cases h
  case handed => exact hv
  case issuedPass tag r rest hf _ =>
    have hc := count_carry v tag (some (.passThrough r)) PortRequest.isRelease
    simp only [hf, Option.any_none, Option.any_some, PortRequest.isRelease, Bool.toNat_false] at hc
    exact hc.trans hv
  case issuedRelease tag e hf hw _ =>
    have hc := count_carry v tag (some (.release e)) PortRequest.isRelease
    simp only [hf, Option.any_none, Option.any_some, PortRequest.isRelease, Bool.toNat_false, Bool.toNat_true] at hc
    rw [if_neg (by simp [hw])] at hv
    exact hc.trans (by rw [hv]; rfl)
  case passEnded tag r hb =>
    have hc := count_carry v tag none PortRequest.isRelease
    simp only [hb, Option.any_none, Option.any_some, PortRequest.isRelease, Bool.toNat_false] at hc
    exact hc.trans hv
  case writeEnded tag e write copy hb hg =>
    have hc := count_carry v tag none PortRequest.isRelease
    simp only [hb, Option.any_none, Option.any_some, PortRequest.isRelease, Bool.toNat_false, Bool.toNat_true] at hc
    by_cases hi : v.write = .issued
    · rw [if_pos hi] at hv
      have h0 : (v.carry tag none).count PortRequest.isRelease = 0 := by omega
      exact h0.trans (by simp [(hg hi).1])
    · rw [if_neg hi] at hv
      omega
  case dropped hi =>
    rw [if_neg hi] at hv
    exact hv
  case asked e hw =>
    rw [if_neg (by simp [hw])] at hv
    exact hv
  case cleared => rfl

theorem Step.carriesCopy (h : Step v w) (hi : v.Issued) (hv : v.CarriesCopy) : w.CarriesCopy := by
  have hi' := h.issued hi
  have updated {tag : TagId} {request : Option PortRequest} (hr : ∀ e, request = some (.release e) → v.copy = some e)
      (k : TagId) (e : Entry) (hk : (v.carry tag request).carried k = some (.release e)) : v.copy = some e := by
    simp only [carry, Function.update_apply] at hk
    split at hk
    · exact hr e hk
    · exact hv k e hk
  cases h
  case handed => exact hv
  case issuedPass tag r rest _ _ => exact updated (by simp)
  case issuedRelease tag e _ _ hcopy => exact updated fun x hx => by cases hx; exact hcopy
  case passEnded tag r _ => exact updated (by simp)
  case writeEnded tag e write copy hb hg =>
    have hwrite : v.write = .issued := by
      by_contra hn
      exact hi.no_release hn tag e hb
    exact fun k x hk => absurd hk (hi'.no_release (by simp [(hg hwrite).1]) k x)
  case dropped => exact fun k x hk => absurd hk (hi'.no_release (by simp) k x)
  case asked => exact fun k x hk => absurd hk (hi'.no_release (by simp) k x)
  case cleared => exact fun k x hk => by simp at hk

/-! ## The settle counts (R97) -/

/-- R97: each settle count is the number of requests with that mark that wait or have been issued. -/
def Settled (v : PortView) : Prop :=
  ∀ g : GroupId, v.settle[g] = v.waiting.countP (passMarks g) + v.count (PortRequest.marks g)

theorem changeSettle_get (mark : Option GroupId) (change : Nat → Nat) (counts : Vector Nat 8) (g : GroupId) :
    (changeSettle mark change counts)[g] = if mark = some g then change counts[g] else counts[g] := by
  cases mark with
  | none => rfl
  | some k =>
    by_cases h : k = g
    · simp [changeSettle, h]
    · have hne : k.val ≠ g.val := fun e => h (Fin.ext e)
      simp [changeSettle, h, hne]

theorem marks_passThrough (g : GroupId) (r : PassRequest) : PortRequest.marks g (.passThrough r) = passMarks g r := rfl

theorem Step.settled (h : Step v w) (hv : v.Settled) : w.Settled := by
  have marked (g : GroupId) (r : PassRequest) : r.mark = some g ↔ passMarks g r = true := by simp
  intro g
  have hg := hv g
  have carried := fun tag request => count_carry v tag request (PortRequest.marks g)
  cases h
  case handed r =>
    have raised := changeSettle_get r.mark (fun n => n + 1) v.settle g
    change (changeSettle r.mark (fun n => n + 1) v.settle)[g] =
      (v.waiting ++ [r]).countP (passMarks g) + v.count (PortRequest.marks g)
    rw [raised, List.countP_append, List.countP_singleton]
    simp only [marked]
    split <;> omega
  case issuedPass tag r rest hf hw =>
    have hc := carried tag (some (.passThrough r))
    rw [hw, List.countP_cons] at hg
    rw [hf] at hc
    simp only [Option.any_none, Option.any_some, marks_passThrough, Bool.toNat_false] at hc
    change v.settle[g] = rest.countP (passMarks g) + (v.carry tag (some (.passThrough r))).count (PortRequest.marks g)
    cases hr : passMarks g r <;> simp only [hr, if_true, if_false, Bool.false_eq_true, Bool.toNat_false, Bool.toNat_true] at hg hc <;> omega
  case issuedRelease tag e hf _ _ =>
    have hc := carried tag (some (.release e))
    rw [hf] at hc
    exact hg.trans (congrArg _ hc.symm)
  case passEnded tag r hb =>
    have hc := carried tag none
    have lowered := changeSettle_get r.mark (fun n => n - 1) v.settle g
    rw [hb] at hc
    simp only [Option.any_none, Option.any_some, marks_passThrough, Bool.toNat_false] at hc
    change (changeSettle r.mark (fun n => n - 1) v.settle)[g] =
      v.waiting.countP (passMarks g) + (v.carry tag none).count (PortRequest.marks g)
    simp only [lowered, marked]
    cases hr : passMarks g r <;> simp only [hr, if_true, if_false, Bool.false_eq_true, Bool.toNat_false, Bool.toNat_true] at hc ⊢ <;> omega
  case writeEnded tag e _ _ hb _ =>
    have hc := carried tag none
    rw [hb] at hc
    exact hg.trans (congrArg _ hc.symm)
  case dropped => exact hg
  case asked => exact hg
  case cleared =>
    have hz : (Vector.replicate 8 0 : Vector Nat 8)[g] = 0 := Vector.getElem_replicate ..
    exact hz.trans (by simp [count])

end PortView

/-! ## The claims about the release write (R46, R80, R84, R95, R99) -/

theorem issued_portView (s : State) : (s.portView none).Issued ↔ IssuedHoldsTag s := by
  unfold PortView.Issued PortView.count IssuedHoldsTag
  simp only [tagReleases_eq]
  rfl

theorem carriesCopy_portView (s : State) : (s.portView none).CarriesCopy ↔ TagCarriesCopy s := by
  have carried (tag : TagId) (e : Entry) :
      (s.portView none).carried tag = some (.release e) ↔ ∃ n m, s.tag tag = .busy (.release e) n m := by
    change (s.tag tag).request? = some (.release e) ↔ _
    cases s.tag tag <;> simp [TagState.request?]
  exact ⟨fun h tag e n m ht => h tag e ((carried tag e).mpr ⟨n, m, ht⟩), fun h tag e hc => by
    obtain ⟨n, m, ht⟩ := (carried tag e).mp hc
    exact h tag e n m ht⟩

/-- Settles O55, move by move: what stands next in the list is kept by every move, and the tag and the copy by every step of the
memory port. -/
theorem releaseWritesCarryHeldEntries : Obligations.ReleaseWritesCarryHeldEntries := by
  unfold Obligations.ReleaseWritesCarryHeldEntries
  refine ⟨fun s t hs hw h => ?_, fun s t hs hi h => ?_, fun s t hs hi hcopy h => ?_⟩
  · exact (moves_step (c := True) h fun _ => hs).keeps (P := fun _ s => WriteCarriesHeldEntry s)
      (fun hm => writeCarries_move trivial hm) hw
  · exact (issued_portView t).mp ((steps_step h hs).keeps PortView.Step.issued ((issued_portView s).mpr hi))
  · have kept := (steps_step h hs).keeps (P := fun v => v.Issued ∧ v.CarriesCopy)
      (fun hs hv => ⟨hs.issued hv.1, hs.carriesCopy hv.1 hv.2⟩) ⟨(issued_portView s).mpr hi, (carriesCopy_portView s).mpr hcopy⟩
    exact (carriesCopy_portView t).mp kept.2

/-! ## Draining and earlier traffic (R63, R65, R83) -/

theorem settled_portView (s : State) : (s.portView none).Settled ↔ SettleCountsRequests s := by
  unfold PortView.Settled PortView.count SettleCountsRequests
  simp only [tagMarks_eq]
  rfl

theorem noMarked_congr (h : NoMarkedRequestInDraining s) (hs : t.engine.state = .draining → s.engine.state = .draining)
    (hg : t.engine.state = .draining → t.engine.group = s.engine.group)
    (hz : ∀ g, t.engine.state = .draining → t.engine.group = some g → s.settleCount g = 0 → t.settleCount g = 0) :
    NoMarkedRequestInDraining t :=
  fun g hd hgr => hz g hd hgr (h g (hs hd) ((hg hd).symm.trans hgr))

theorem noMarked_grantOne (h : NoMarkedRequestInDraining s) : NoMarkedRequestInDraining s.grantOne := by
  rcases grantOne_cases s with e | ⟨tag, r, rest, -, -, -, e⟩ | ⟨tag, x, -, -, -, -, e⟩ <;> rw [e] <;> exact h

theorem softReset_state (e : Engine) : e.softReset.state ≠ .draining := by
  unfold Engine.softReset
  split <;> simp_all

theorem writeGone_rest (e : Engine) : e.writeGone.state = e.state ∧ e.writeGone.group = e.group := by
  rcases writeGone_cases e with h | h <;> rw [h] <;> exact ⟨rfl, rfl⟩

theorem noMarked_move (hc : c) (hm : Move c a s b t) (h : NoMarkedRequestInDraining s) : NoMarkedRequestInDraining t := by
  cases hm
  case add g address data mask _ _ _ _ =>
    rcases addRequest_cases s g address data mask with ⟨-, -, e⟩ | ⟨-, -, e⟩ | ⟨-, -, e⟩ <;> rw [e] <;> exact h
  case freeHead g _ =>
    rcases freeHead_cases s g with ⟨-, e⟩ | ⟨x, rest, -, e⟩ <;> rw [e] <;> exact h
  case accept => unfold State.acceptTransaction; split <;> exact h
  case respond => unfold State.respond; split <;> [exact h; (split <;> exact h)]
  case softReset => exact fun g hd => absurd hd (softReset_state s.engine)
  case enterReset => exact fun g hd => by simp [State.enterReset] at hd
  case context e _ _ _ hd =>
    intro g hst hg
    rcases hd hst with ⟨hs, he⟩ | hz
    · exact h g hs (he.symm.trans hg)
    · exact hz g hg
  case stop => exact fun g hd => by simp at hd
  case handOver r fence =>
    refine noMarked_grantOne (noMarked_congr h id (fun _ => rfl) fun g hd hg hz => ?_)
    have raised := PortView.changeSettle_get r.mark (fun n => n + 1) s.port.settle g
    rw [if_neg fun e => fence hc g e hd hg] at raised
    exact raised.trans hz
  case grant => exact noMarked_grantOne h
  case passEnds tag r n m answer data _ _ =>
    refine noMarked_congr h id (fun _ => rfl) fun g _ _ hz => ?_
    have lowered := PortView.changeSettle_get r.mark (fun n => n - 1) s.port.settle g
    have hz' : s.port.settle[g] = 0 := hz
    rw [hz'] at lowered
    exact lowered.trans (by simp)
  case writeEnds =>
    exact noMarked_congr h (fun hd => (writeGone_rest _).1.symm.trans hd) (fun _ => (writeGone_rest _).2) fun _ _ _ hz => hz
  all_goals exact h

/-! ## No request waits while a tag is FREE (R98) -/

theorem noGrantDue_iff (s : State) :
    NoGrantDue s ↔ (∀ tag, s.tag tag ≠ .free) ∨ s.port.waiting = [] ∧ s.engine.write ≠ .requested :=
  or_congr (freeTag?_eq_none_iff _) (winner_eq_none_iff s)

/-- No tag becomes FREE and nothing begins to wait. -/
theorem noGrantDue_congr (h : NoGrantDue s) (ht : ∀ tag, t.tag tag = .free → s.tag tag = .free)
    (hp : s.port.waiting = [] → t.port.waiting = [])
    (hw : t.engine.write = .requested → s.engine.write = .requested) : NoGrantDue t := by
  rw [noGrantDue_iff] at h ⊢
  exact h.imp (fun h tag hf => h tag (ht tag hf)) fun h => ⟨hp h.1, fun hr => h.2 (hw hr)⟩

/-- R98: a request that arrives while none waits is issued when a tag is FREE. -/
theorem noGrantDue_handOver (h : NoGrantDue s) (r : PassRequest) : NoGrantDue (s.handOver r) := by
  rw [noGrantDue_iff] at h
  set p := s.setPort { s.port with
    waiting := s.port.waiting ++ [r], settle := changeSettle r.mark (fun n => n + 1) s.port.settle } with hp
  have arrives : s.handOver r = p.grantOne := rfl
  rw [arrives]
  rcases h with h | ⟨hw, hn⟩
  · have due : NoGrantDue p := (noGrantDue_iff p).mpr (.inl h)
    rwa [grantOne_of_noGrantDue due]
  · have alone : p.port.waiting = [r] := by simp [hp, hw]
    have winner : p.winner = some .passThrough := (winner_eq_passThrough_iff p).mpr ⟨by simp [alone], .inl hn⟩
    cases ht : p.port.freeTag? with
    | none =>
      have due : NoGrantDue p := .inl ht
      rwa [grantOne_of_noGrantDue due]
    | some tag =>
      have issued : p.grantOne = p.issuePass tag := by simp [State.grantOne, ht, winner]
      rw [issued, noGrantDue_iff]
      unfold State.issuePass
      rw [alone]
      exact .inr ⟨rfl, hn⟩

theorem noGrantDue_move (hc : c) (hm : Move c a s b t) (h : a.granting = false → NoGrantDue s) :
    b.granting = false → NoGrantDue t := by
  cases hm
  case add g address data mask _ _ _ _ =>
    intro hb
    rcases addRequest_cases s g address data mask with ⟨-, -, e⟩ | ⟨-, -, e⟩ | ⟨-, -, e⟩ <;> rw [e] <;> exact h hb
  case freeHead g _ =>
    intro hb
    rcases freeHead_cases s g with ⟨-, e⟩ | ⟨x, rest, -, e⟩ <;> rw [e] <;> exact h hb
  case accept => intro hb; unfold State.acceptTransaction; split <;> exact h hb
  case respond => intro hb; unfold State.respond; split <;> [exact h hb; (split <;> exact h hb)]
  case softReset hx =>
    refine fun _ => noGrantDue_congr (h rfl) (fun _ hf => hf) id fun hr => ?_
    rcases softReset_write (hx hc) with ⟨h0, -⟩ | ⟨h0, -⟩ <;> cases h0.symm.trans hr
  case enterReset => exact fun _ => (noGrantDue_iff _).mpr (.inr ⟨rfl, fun e => by cases e⟩)
  case timers =>
    intro hb
    refine noGrantDue_congr (h hb) (fun tag hf => ?_) id id
    rw [tag_advanceTimers] at hf
    revert hf
    cases s.tag tag <;> simp [TagState.advance]
  case context e hw _ _ _ =>
    exact fun hb => noGrantDue_congr (h hb) (fun _ hf => hf) id fun hr => by cases (hw hc).symm.trans hr
  case request => exact fun hb => by cases hb
  case mayGrant => exact fun hb => by cases hb
  case tagFreed => exact fun hb => by cases hb
  case granted due => exact fun _ => due hc
  case handOver r _ => exact fun hb => noGrantDue_handOver (h hb) r
  case grant =>
    intro hb
    rw [grantOne_of_noGrantDue (h hb)]
    exact h hb
  case writeEnds =>
    intro hb
    refine noGrantDue_congr (h hb) (fun _ hf => hf) id fun hr => ?_
    rcases writeGone_cases s.engine with e | e
    · cases (congrArg Engine.write e).symm.trans hr
    · exact (congrArg Engine.write e).symm.trans hr
  case tagAbandoned tag _ =>
    intro hb
    refine noGrantDue_congr (h hb) (fun k hf => ?_) id id
    rw [tag_of_set (s := s) (tag := tag) (x := .abandoned) rfl k] at hf
    split at hf
    · cases hf
    · exact hf
  all_goals exact h

/-- Settles O56, move by move: the settle counts by every step of the memory port, DRAINING by the fence, and that no grant is
due because every event that frees a tag or asks for a write grants. -/
theorem drainingMeetsNoEarlierTraffic : Obligations.DrainingMeetsNoEarlierTraffic := by
  unfold Obligations.DrainingMeetsNoEarlierTraffic
  refine ⟨fun s t hs hcounts hmarked h => ⟨?_, ?_⟩, fun s t hs hdue h => ?_⟩
  · exact (settled_portView t).mp ((steps_step h hs).keeps PortView.Step.settled ((settled_portView s).mpr hcounts))
  · exact (moves_step (c := True) h fun _ => hs).keeps (P := fun _ s => NoMarkedRequestInDraining s)
      (fun hm => noMarked_move trivial hm) hmarked
  · exact (moves_step (c := True) h fun _ => hs).keeps (P := fun a s => a.granting = false → NoGrantDue s)
      (fun hm => noGrantDue_move trivial hm) (fun _ => hdue) rfl

end Sys2Proof.Machine
end

section
/-!
What every step keeps of the ranges (R57, R99, R103, R107, R127, R152, R158), move by move, and of the outputs between two frames
and in reset (R168, R190).
-/
namespace Sys2Proof.Machine

open Safety

variable {c : Prop} {a b : Stage} {s t u : State}

/-! ## The ranges -/

/-- From `s` to `t` no value has left its range. -/
structure RangesKept (s t : State) : Prop where
  timebase : TimebaseInRange s.timebase → TimebaseInRange t.timebase
  completions : CompletionsInRange s → CompletionsInRange t
  points : PointsInRange s → PointsInRange t
  windows : WindowsInRange s → WindowsInRange t
  timeouts : TimeoutsInRange s → TimeoutsInRange t

theorem RangesKept.refl (s : State) : RangesKept s s := ⟨id, id, id, id, id⟩

theorem RangesKept.trans (h : RangesKept s t) (k : RangesKept t u) : RangesKept s u :=
  ⟨k.timebase ∘ h.timebase, k.completions ∘ h.completions, k.points ∘ h.points, k.windows ∘ h.windows, k.timeouts ∘ h.timeouts⟩

/-- A tag changes to a state that holds no timeout but one in the range. -/
theorem timeoutsInRange_set (h : TimeoutsInRange s) {tag : TagId} {x : TagState}
    (hx : ∀ r n m, x = .busy r n m → 256 ≤ m ∧ m ≤ 65535) (ht : t.port.tags = s.port.tags.set tag.val x)
    (hn : t.port.timeout = s.port.timeout) : TimeoutsInRange t := by
  refine ⟨hn ▸ h.1, fun k r n m hk => ?_⟩
  rw [tag_of_set ht k] at hk
  split at hk
  · exact hx r n m hk
  · exact h.2 k r n m hk

theorem timeoutsInRange_grantOne (h : TimeoutsInRange s) : TimeoutsInRange s.grantOne := by
  have issued (request : PortRequest) (r : PortRequest) (n m : Nat) (hx : TagState.busy request 0 s.port.timeout = .busy r n m) :
      256 ≤ m ∧ m ≤ 65535 := by
    cases hx
    exact h.1
  rcases grantOne_cases s with e | ⟨tag, r, rest, -, -, -, e⟩ | ⟨tag, x, -, -, -, -, e⟩
  · rwa [e]
  · exact timeoutsInRange_set (tag := tag) h (issued (.passThrough r)) (by rw [e]; rfl) (by rw [e]; rfl)
  · exact timeoutsInRange_set (tag := tag) h (issued (.release x)) (by rw [e]; rfl) (by rw [e]; rfl)

theorem rangesKept_grantOne (s : State) : RangesKept s s.grantOne := by
  refine ⟨?_, ?_, ?_, ?_, timeoutsInRange_grantOne⟩ <;>
    rcases grantOne_cases s with e | ⟨tag, r, rest, -, -, -, e⟩ | ⟨tag, x, -, -, -, -, e⟩ <;> rw [e] <;> exact id

theorem rangesKept_move (hm : Move c a s b t) : RangesKept s t := by
  have same : RangesKept s s := .refl s
  cases hm
  case add g address data mask _ _ _ _ =>
    rcases addRequest_cases s g address data mask with ⟨-, -, e⟩ | ⟨-, -, e⟩ | ⟨-, -, e⟩ <;> rw [e] <;>
      exact ⟨id, id, id, id, id⟩
  case freeHead g _ => rcases freeHead_cases s g with ⟨-, e⟩ | ⟨x, rest, -, e⟩ <;> rw [e] <;> exact ⟨id, id, id, id, id⟩
  case accept => unfold State.acceptTransaction; split <;> exact ⟨id, id, id, id, id⟩
  case respond => unfold State.respond; split <;> [exact same; (split <;> exact ⟨id, id, id, id, id⟩)]
  case record range => exact ⟨id, range, id, id, id⟩
  case window w r range =>
    refine ⟨id, id, id, fun h k => ?_, id⟩
    by_cases hk : k = w
    · rw [hk, State.window_setWindow_self]
      exact range h
    · rw [State.window_setWindow_ne s hk]
      exact h k
  case point p r range =>
    refine ⟨id, id, fun h k => ?_, id, id⟩
    by_cases hk : k = p
    · rw [hk, State.point_setPoint_self]
      exact range
    · rw [State.point_setPoint_ne s hk]
      exact h k
  case timebase range => exact ⟨range, id, id, id, id⟩
  case timeout range => exact ⟨id, id, id, id, fun h => ⟨range, h.2⟩⟩
  case softReset => exact ⟨id, fun h => ⟨by simp [State.softReset], by simp [State.softReset], by simp [State.softReset],
      by simp [State.softReset], h.2.2.2.2.1, rfl⟩, id, id, id⟩
  case enterReset =>
    refine ⟨fun _ => show TimebaseInRange {} by decide, fun _ => by simp [CompletionsInRange, State.enterReset, irqLevel], fun _ => ?_, fun _ => ?_,
      fun _ => ⟨by simp [State.enterReset], fun tag r n m h => ?_⟩⟩
    · simp [PointsInRange, State.point, State.enterReset]
    · simp [WindowsInRange, State.window, State.enterReset]
    · simp [State.tag, State.enterReset] at h
  case timers =>
    refine ⟨id, id, id, id, fun h => ⟨h.1, fun tag r n m ht => ?_⟩⟩
    rw [tag_advanceTimers] at ht
    cases hs : s.tag tag with
    | free => simp [hs, TagState.advance] at ht
    | abandoned => simp [hs, TagState.advance] at ht
    | busy request k timeout =>
      rw [hs] at ht
      cases ht
      exact h.2 tag _ _ _ hs
  case handOver r _ =>
    exact RangesKept.trans (t := s.setPort { s.port with
      waiting := s.port.waiting ++ [r], settle := changeSettle r.mark (fun n => n + 1) s.port.settle }) ⟨id, id, id, id, id⟩
      (rangesKept_grantOne _)
  case grant => exact rangesKept_grantOne s
  case tagFreed tag _ =>
    exact ⟨id, id, id, id, fun h => timeoutsInRange_set (tag := tag) h (fun _ _ _ hx => by cases hx) rfl rfl⟩
  case tagAbandoned tag _ =>
    exact ⟨id, id, id, id, fun h => timeoutsInRange_set (tag := tag) h (fun _ _ _ hx => by cases hx) rfl rfl⟩
  all_goals exact ⟨id, id, id, id, id⟩

theorem rangesKept_step (h : step s = .next t) : RangesKept s t :=
  (moves_step (c := False) h False.elim).keeps (P := fun _ u => RangesKept s u) (fun hm hk => hk.trans (rangesKept_move hm))
    (.refl s)

/-! ## The outputs (R168, R190) -/

/-- The control link and the reset are as they were. -/
def LinkRests (s t : State) : Prop := t.link = s.link ∧ t.inReset = s.inReset

theorem Keeps.linkRests (h : Keeps s t) : LinkRests s t := ⟨h.link, h.inReset⟩

/-- A command that does not reach the control link and the reset. -/
def ReplyRests (act : State → Reply) : Prop := ∀ s, LinkRests s (act s).state

theorem replyRests_withIndex {n : Nat} (f : Frame) {act : State → Fin n → Reply} (h : ∀ s i, LinkRests s (act s i).state) :
    ReplyRests fun s => withIndex n f s (act s) := by
  intro s
  rcases withIndex_cases n f s (act s) with e | ⟨i, e⟩ <;> simp only [e]
  · exact ⟨rfl, rfl⟩
  · exact h s i

theorem linkRests_groupConfigReply (f : Frame) (s : State) (g : GroupId) : LinkRests s (groupConfigReply f s g).state := by
  unfold groupConfigReply
  split
  · exact ⟨rfl, rfl⟩
  · split <;> exact ⟨rfl, rfl⟩

theorem linkRests_windowSetReply (f : Frame) (s : State) (w : Fin 16) : LinkRests s (windowSetReply f s w).state := by
  unfold windowSetReply
  split
  · exact ⟨rfl, rfl⟩
  · split <;> exact ⟨rfl, rfl⟩

theorem linkRests_windowClearReply (s : State) (w : Fin 16) : LinkRests s (windowClearReply s w).state := by
  unfold windowClearReply
  split <;> exact ⟨rfl, rfl⟩

/-- No command of the catalogue reaches the control link or the reset. -/
theorem replyRests_commandReply (code : Byte) (f : Frame) : ReplyRests (commandReply code f) := by
  unfold commandReply
  split
  case h_4 => exact replyRests_withIndex f (linkRests_groupConfigReply f)
  case h_5 => exact replyRests_withIndex f fun s g => (keeps_groupOpenReply s g).linkRests
  case h_6 => exact replyRests_withIndex f fun s g => (keeps_groupCloseReply f s g).linkRests
  case h_7 => exact replyRests_withIndex f fun s g => (keeps_groupArmReply f s g).linkRests
  case h_8 => exact replyRests_withIndex f fun s g => (keeps_groupDisarmReply s g).linkRests
  case h_9 => exact replyRests_withIndex f fun s g => (keeps_groupLaunchReply s g).linkRests
  case h_10 => exact replyRests_withIndex f fun s g => (keeps_discard s g).linkRests
  case h_11 => exact replyRests_withIndex f fun _ _ => ⟨rfl, rfl⟩
  case h_12 => exact replyRests_withIndex f fun s g => (keeps_entryReadReply g _ s).linkRests
  case h_13 => exact replyRests_withIndex f (linkRests_windowSetReply f)
  case h_14 => exact replyRests_withIndex f linkRests_windowClearReply
  case h_15 => exact replyRests_withIndex f fun _ _ => ⟨rfl, rfl⟩
  case h_16 =>
    refine replyRests_withIndex f fun s p => ?_
    unfold pointSetReply
    split <;> exact ⟨rfl, rfl⟩
  case h_17 => exact replyRests_withIndex f fun _ _ => ⟨rfl, rfl⟩
  case h_18 => intro s; unfold timebaseConfigReply; split <;> exact ⟨rfl, rfl⟩
  case h_21 => intro s; unfold portConfigReply; split <;> exact ⟨rfl, rfl⟩
  case h_22 => intro s; unfold queuePopReply; split <;> exact ⟨rfl, rfl⟩
  case h_23 => intro s; unfold irqConfigReply; split <;> exact ⟨rfl, rfl⟩
  all_goals exact fun _ => ⟨rfl, rfl⟩

/-- The outputs of a part that is out of reset: only the control link counts. -/
theorem outputsQuiet_of_running (hr : t.inReset = false) (hs : t.link.selected = false) (hp : t.link.partialBits = [])
    (hd : t.link.sdoDriven = t.link.csHeldLow) : OutputsQuiet t :=
  ⟨⟨hs, hp⟩, hd, fun h => absurd h (by simp [hr])⟩

theorem outputsQuiet_rests (hr : TakesEvents s) (h : OutputsQuiet s) (k : LinkRests s t) : OutputsQuiet t := by
  obtain ⟨⟨hs, hp⟩, hd, -⟩ := h
  exact outputsQuiet_of_running (k.2.trans hr.1) (k.1 ▸ hs) (k.1 ▸ hp) (k.1 ▸ hd)

theorem outputsQuiet_endHeldFrame (hr : TakesEvents s) (h : OutputsQuiet s) : OutputsQuiet s.endHeldFrame := by
  obtain ⟨⟨hs, hp⟩, -, -⟩ := h
  exact outputsQuiet_of_running hr.1 hs hp rfl

theorem outputsQuiet_takeFrame (hr : TakesEvents s) (h : OutputsQuiet s) {code : Byte} {f : Frame} {act : State → Reply}
    (ha : ReplyRests act) : OutputsQuiet (s.takeFrame code f act) := by
  cases hc : s.link.csHeldLow with
  | true =>
    rw [State.takeFrame_held hr hc]
    exact outputsQuiet_endHeldFrame hr h
  | false =>
    have ready : LinkReady s := ⟨hr, hc, h.1.1⟩
    by_cases hl : f.length < (frameLength code).getD 1
    · rw [State.takeFrame_short ready hl]
      exact outputsQuiet_of_running hr.1 rfl rfl hc.symm
    · rw [State.takeFrame_long ready (Nat.not_lt.mp hl)]
      have link := (ha _).1.trans (receive_link ready.2.2 code f)
      exact outputsQuiet_of_running ((ha _).2.trans hr.1) (congrArg ControlLink.selected link)
        (congrArg ControlLink.partialBits link)
        ((congrArg ControlLink.sdoDriven link).trans ((congrArg ControlLink.csHeldLow link).trans hc).symm)

theorem outputsQuiet_takeShortFrame (hr : TakesEvents s) (h : OutputsQuiet s) (bits : Fin 8) :
    OutputsQuiet (s.takeShortFrame bits.val) := by
  unfold State.takeShortFrame
  rw [if_neg (by simp [State.takesEvents_iff.mpr hr])]
  split
  · exact outputsQuiet_endHeldFrame hr h
  · next hc =>
    have link : (s.clockFrame (List.replicate bits.val false)).link = _ := clockFrame_short h.1.1 bits
    exact outputsQuiet_of_running hr.1 (congrArg ControlLink.selected link) (congrArg ControlLink.partialBits link)
      ((congrArg ControlLink.sdoDriven link).trans ((congrArg ControlLink.csHeldLow link).trans (by simpa using hc)).symm)

theorem outputsQuiet_enterReset (s : State) : OutputsQuiet s.enterReset := by
  refine ⟨⟨rfl, rfl⟩, rfl, fun _ => ⟨rfl, rfl, rfl, fun tag => ?_⟩⟩
  simp [State.tag, State.enterReset]

/-- The events of the running part keep the control link and the reset. -/
theorem linkRests_event {i : Instr} (hf : frameOfCommand i = none) (hp : i ≠ .powerOnReset) (hn : ∀ n, i ≠ .rstN n)
    (hl : ∀ a b, i ≠ .resetRelease a b) (h : exec i s = .next t) : LinkRests s t := by
  cases i
  case powerOnReset => exact absurd rfl hp
  case rstN n => exact absurd rfl (hn n)
  case resetRelease a b => exact absurd rfl (hl a b)
  case acceptance x =>
    simp only [exec, execAcceptance] at h
    split at h
    · cases h; exact (keeps_whenRunning s fun s => keeps_acceptTransaction s x).linkRests
    · cases h
  case judgement => cases h; exact (keeps_whenRunning s fun s => keeps_judge keeps_betweenBeats s).linkRests
  case transactionResponse => cases h; exact (keeps_whenRunning s keeps_respond).linkRests
  case grant => cases h; exact (keeps_whenRunning s keeps_grantOne).linkRests
  case response tag answer data => cases h; exact (keeps_whenRunning s fun s => keeps_takeResponse s tag answer data).linkRests
  case responseTimeout tag => cases h; exact (keeps_whenRunning s fun s => keeps_timeOut s tag).linkRests
  case taking => cases h; exact (keeps_whenRunning s keeps_takeNext).linkRests
  case settlingEnd =>
    cases h
    refine (keeps_whenRunning s fun s => ?_).linkRests
    split
    · exact (keeps_settleOn s).trans (keeps_grantAll _)
    · exact .refl s
  case releaseCompletion =>
    cases h
    refine (keeps_whenRunning s fun s => ?_).linkRests
    split
    · exact (keeps_endRelease ..).trans (keeps_grantAll _)
    · exact .refl s
  case lineTimerExpiry => cases h; exact (keeps_whenRunning s keeps_expireLine).linkRests
  case fsyncEdge low high =>
    cases h
    exact (keeps_whenRunning s fun s =>
      keeps_sampleEdge _ _ low high (fun _ _ => keeps_setMissed ..) keeps_takeFsync).linkRests
  case trigEdge low high =>
    cases h
    refine (keeps_whenRunning s fun s => ?_).linkRests
    split
    · exact .refl s
    · exact (keeps_setTrigLevel ..).trans (keeps_sampleEdge _ _ low high (fun _ _ => keeps_setMissed ..) keeps_takeTrig)
  case deadlineExpiry g =>
    cases h
    exact (keeps_whenRunning s fun s => (keeps_expiryNotice s g).trans (keeps_takeIfAppended ..)).linkRests
  all_goals cases hf

/-- R165, R52: a term that is no command of the part is refused (log 16). -/
theorem wellFormed_of_exec {i : Instr} (h : exec i s = .next t) : i.wellFormed = true := by
  cases i
  case unknownCmd code f =>
    simp only [exec, execUnknownCmd] at h
    split at h
    · cases h
    · next hc => simpa [Instr.wellFormed] using hc
  case acceptance x =>
    simp only [exec, execAcceptance] at h
    split at h
    · next hx => exact hx
    · cases h
  all_goals rfl

/-- A frame taken by a running part (R162 to R168). -/
theorem outputsQuiet_frame (hr : TakesEvents s) (ho : OutputsQuiet s) (bytes : List Byte) (extra : Fin 8)
    (h : exec (commandOfFrame bytes extra) s = .next t) : OutputsQuiet t := by
  cases bytes with
  | nil =>
    cases h
    exact outputsQuiet_takeShortFrame hr ho extra
  | cons code rest =>
    cases (exec_commandOfCode code ⟨rest, extra⟩ s).symm.trans h
    exact outputsQuiet_takeFrame hr ho (replyRests_commandReply code _)

theorem outputsQuiet_lowerResetPin (ho : OutputsQuiet s) (n : Nat) : OutputsQuiet (s.lowerResetPin n) := by
  unfold State.lowerResetPin
  split
  · exact ho
  · split
    · exact outputsQuiet_enterReset s
    · split
      · exact outputsQuiet_enterReset s.useFree
      · exact ho

theorem outputsQuiet_resetRelease (ho : OutputsQuiet s) {trigHigh csLow : Bool}
    (h : exec (.resetRelease trigHigh csLow) s = .next t) : OutputsQuiet t := by
  cases h
  split
  · exact outputsQuiet_of_running rfl ho.1.1 ho.1.2 rfl
  · exact ho

theorem outputsQuiet_exec {i : Instr} (ho : OutputsQuiet s) (h : exec i s = .next t) : OutputsQuiet t := by
  by_cases hp : i = .powerOnReset
  · subst hp
    cases h
    exact outputsQuiet_enterReset s
  by_cases hn : ∃ n, i = .rstN n
  · obtain ⟨n, rfl⟩ := hn
    cases h
    exact outputsQuiet_lowerResetPin ho n
  by_cases hl : ∃ a b, i = .resetRelease a b
  · obtain ⟨a, b, rfl⟩ := hl
    exact outputsQuiet_resetRelease ho h
  have noPin (n : Nat) : i ≠ .rstN n := fun e => hn ⟨n, e⟩
  have noRelease (a b : Bool) : i ≠ .resetRelease a b := fun e => hl ⟨a, b, e⟩
  have hw := wellFormed_of_exec h
  by_cases hr : TakesEvents s
  · cases hf : frameOfCommand i with
    | none => exact outputsQuiet_rests hr ho (linkRests_event hf hp noPin noRelease h)
    | some frame =>
      rw [← commandOfFrame_of_frameOfCommand hw hf] at h
      exact outputsQuiet_frame hr ho _ _ h
  · cases (exec_ignored hr hw hp (fun n e => absurd e (noPin n)) fun a b e => absurd e (noRelease a b)).symm.trans h
    exact ho

theorem outputsQuiet_idle (ho : OutputsQuiet s) : OutputsQuiet s.idle := by
  by_cases hr : TakesEvents (s.useFree.setClk (Config.clkRuns s.freeIndex))
  · exact outputsQuiet_rests hr ho (keeps_whenRunning _ keeps_clockPeriod).linkRests
  · unfold State.idle
    rw [State.whenRunning_ignored hr]
    exact ho

theorem outputsQuiet_step (ho : OutputsQuiet s) (h : step s = .next t) : OutputsQuiet t := by
  unfold step at h
  split at h
  · cases h
    exact outputsQuiet_idle ho
  · next i rest _ => exact outputsQuiet_exec (s := { s with pending := rest }) ho h

/-- Settles O57: the ranges move by move, the outputs command by command. -/
theorem rangesAreKept : Obligations.RangesAreKept := by
  unfold Obligations.RangesAreKept
  intro s t h
  have kept := rangesKept_step h
  exact ⟨kept.timebase, kept.completions, kept.points, kept.windows, kept.timeouts, fun ho => outputsQuiet_step ho h⟩

end Sys2Proof.Machine
end

section
/-!
What every step keeps of the ingress queue: its places, its names and its order, also in the middle of a judgement (R52, R54, R56).
-/
namespace Sys2Proof.Machine

open Safety

variable {c : Prop} {a b : Stage} {s t : State} {judging : Option (Nat × Nat)}

/-! ## The ingress queue in the middle of an event -/

/-- R54: the number of beats decided so far of a WAITING transaction, when `judging` is the one that is being judged. -/
def beatsDecided (judging : Option (Nat × Nat)) (id : Nat) : Nat :=
  match judging with
  | some (name, k) => if id = name then k else 0
  | none => 0

theorem beatsDecided_self (id k : Nat) : beatsDecided (some (id, k)) id = k := if_pos rfl

theorem beatsDecided_other {id name : Nat} (h : id ≠ name) (k : Nat) : beatsDecided (some (name, k)) id = 0 := if_neg h

/-- R52, R54: a transaction has as many results as beats when it is DISPATCHED, and before as many as have been decided. -/
def Ingress.HasResults (judging : Option (Nat × Nat)) (u : Ingress) : Prop :=
  u.results.length = if u.dispatched then u.request.beatCount else beatsDecided judging u.id

/-- R52, R54, R56: the ingress queue in the middle of an event. What is being judged is the head. -/
structure IngressStands (judging : Option (Nat × Nat)) (s : State) : Prop where
  places : s.ingress.length ≤ 8
  results : ∀ u ∈ s.ingress, u.HasResults judging
  order : s.ingress.Pairwise fun u v => v.dispatched = true → u.dispatched = true
  named : IngressNamed s
  head : ∀ id k, judging = some (id, k) → ∃ u, s.head? = some u ∧ u.id = id

theorem ingressStands_iff (s : State) : IngressStands none s ↔ IngressInOrder s ∧ IngressNamed s := by
  have results (u : Ingress) :
      u.HasResults none ↔ if u.dispatched then u.results.length = u.request.beatCount else u.results = [] := by
    unfold Ingress.HasResults
    split <;> simp [beatsDecided]
  constructor
  · intro h
    exact ⟨⟨h.places, fun u hu => (results u).mp (h.results u hu), h.order⟩, h.named⟩
  · intro ⟨⟨hp, hr, ho⟩, hn⟩
    exact ⟨hp, fun u hu => (results u).mpr (hr u hu), ho, hn, fun _ _ e => by cases e⟩

theorem IngressStands.congr (h : IngressStands judging s) (hi : t.ingress = s.ingress) (hn : t.nextId = s.nextId) :
    IngressStands judging t :=
  ⟨hi ▸ h.places, hi ▸ h.results, hi ▸ h.order, ⟨by rw [hi, hn]; exact h.named.1, hi ▸ h.named.2⟩, fun id k e => by
    simpa only [State.head?, hi] using h.head id k e⟩

/-! ## Changing one transaction -/

/-- No two transactions of the queue have one name. -/
theorem IngressStands.eq_of_id (h : IngressStands judging s) {u v : Ingress} (hu : u ∈ s.ingress) (hv : v ∈ s.ingress)
    (e : u.id = v.id) : u = v :=
  List.inj_on_of_nodup_map h.named.2 hu hv e

theorem IngressStands.named_modify (h : IngressStands judging s) (id : Nat) {change : Ingress → Ingress}
    (hi : ∀ u, (change u).id = u.id) : IngressNamed (s.modifyIngress id change) := by
  have kept (u : Ingress) : (if u.id = id then change u else u).id = u.id := by
    split
    · exact hi u
    · rfl
  refine ⟨fun u hu => ?_, ?_⟩
  · obtain ⟨v, hv, rfl⟩ := List.mem_map.mp hu
    rw [kept]
    exact h.named.1 v hv
  · have names : (s.modifyIngress id change).ingress.map Ingress.id = s.ingress.map Ingress.id := by
      simp only [State.modifyIngress, State.setIngress_ingress, List.map_map]
      exact List.map_congr_left fun u _ => kept u
    rw [names]
    exact h.named.2

/-- A transaction changes that stays WAITING or DISPATCHED as it was. -/
theorem IngressStands.modify (h : IngressStands judging s) (id : Nat) {change : Ingress → Ingress}
    (hi : ∀ u, (change u).id = u.id) (hd : ∀ u, (change u).dispatched = u.dispatched) {after : Option (Nat × Nat)}
    (hr : ∀ u ∈ s.ingress, (if u.id = id then change u else u).HasResults after)
    (hj : ∀ name k, after = some (name, k) → ∃ k, judging = some (name, k)) :
    IngressStands after (s.modifyIngress id change) := by
  have stays (u : Ingress) : (if u.id = id then change u else u).dispatched = u.dispatched := by
    split
    · exact hd u
    · rfl
  refine ⟨?_, fun u hu => ?_, ?_, h.named_modify id hi, fun name k e => ?_⟩
  · simpa [State.modifyIngress] using h.places
  · obtain ⟨v, hv, rfl⟩ := List.mem_map.mp hu
    exact hr v hv
  · simp only [State.modifyIngress, State.setIngress_ingress, List.pairwise_map, stays]
    exact h.order
  · obtain ⟨k', hk'⟩ := hj name k e
    obtain ⟨u, hu, hid⟩ := h.head name k' hk'
    refine ⟨if u.id = id then change u else u, ?_, ?_⟩
    · have same : ((fun u : Ingress => !u.dispatched) ∘ fun u : Ingress => if u.id = id then change u else u) =
          fun u => !u.dispatched := funext fun u => by simp only [Function.comp_apply, stays]
      simp only [State.head?, State.modifyIngress, State.setIngress_ingress, List.find?_map, same]
      exact congrArg _ hu
    · split
      · exact (hi u).trans hid
      · exact hid

/-- One transaction of the queue changes, when no other has its name. -/
theorem map_of_one {u : Ingress} {before behind : List Ingress} (h : ∀ v ∈ before ++ behind, v.id ≠ u.id)
    (change : Ingress → Ingress) :
    ((before ++ u :: behind).map fun v => if v.id = u.id then change v else v) = before ++ change u :: behind := by
  have same {l : List Ingress} (hl : ∀ v ∈ l, v.id ≠ u.id) : (l.map fun v => if v.id = u.id then change v else v) = l :=
    (List.map_congr_left fun v hv => if_neg (hl v hv)).trans (List.map_id l)
  rw [List.map_append, List.map_cons, same fun v hv => h v (List.mem_append_left _ hv),
    same fun v hv => h v (List.mem_append_right _ hv), if_pos rfl]

/-- The head becomes DISPATCHED with a result for each beat. -/
theorem IngressStands.dispatchHead (h : IngressStands judging s) {u : Ingress} (hu : s.head? = some u)
    {change : Ingress → Ingress} (hi : ∀ u, (change u).id = u.id) (hd : ∀ u, (change u).dispatched = true)
    (hr : (change u).results.length = (change u).request.beatCount)
    (hj : ∀ id, id ≠ u.id → beatsDecided judging id = 0) : IngressStands none (s.modifyIngress u.id change) := by
  obtain ⟨hw, before, behind, split, hb⟩ := List.find?_eq_some_iff_append.mp hu
  have nodup := h.named.2
  have order := h.order
  rw [split, List.map_append, List.map_cons] at nodup
  rw [split, List.pairwise_append, List.pairwise_cons] at order
  obtain ⟨hfront, ⟨-, hrest⟩, -⟩ := order
  have apart (v : Ingress) (hv : v ∈ before ++ behind) : v.id ≠ u.id := by
    obtain ⟨-, hn, hdis⟩ := List.nodup_append.mp nodup
    rcases List.mem_append.mp hv with hv | hv
    · exact hdis v.id (List.mem_map_of_mem hv) u.id (List.mem_cons_self ..)
    · exact fun e => (List.nodup_cons.mp hn).1 (e ▸ List.mem_map_of_mem hv)
  have queue : (s.modifyIngress u.id change).ingress = before ++ change u :: behind := by
    unfold State.modifyIngress
    rw [State.setIngress_ingress, split, map_of_one apart]
  refine ⟨?_, fun v hv => ?_, ?_, h.named_modify u.id hi, fun _ _ e => by cases e⟩
  · simpa [State.modifyIngress] using h.places
  · rw [queue] at hv
    rcases List.mem_append.mp hv with hv | hv
    · have hdone : v.dispatched = true := by simpa using hb v hv
      have hres := h.results v (split ▸ List.mem_append_left _ hv)
      simpa [Ingress.HasResults, hdone] using hres
    · rcases List.mem_cons.mp hv with rfl | hv
      · simpa [Ingress.HasResults, hd] using hr
      · have hres := h.results v (split ▸ List.mem_append_right _ (List.mem_cons_of_mem _ hv))
        unfold Ingress.HasResults at hres ⊢
        rw [hj v.id (apart v (List.mem_append_right _ hv))] at hres
        exact hres
  · rw [queue, List.pairwise_append, List.pairwise_cons]
    refine ⟨hfront, ⟨fun _ _ _ => hd u, hrest⟩, fun v hv w _ _ => by simpa using hb v hv⟩

/-! ## Acceptance and response -/

theorem ingressStands_accept (h : IngressStands none s) (x : Transaction) : IngressStands none (s.acceptTransaction x) := by
  unfold State.acceptTransaction
  split
  · next hl =>
    refine ⟨?_, fun u hu => ?_, ?_, ⟨fun u hu => ?_, ?_⟩, fun _ _ e => by cases e⟩
    · simpa using hl
    · rcases List.mem_append.mp hu with hu | hu
      · exact h.results u hu
      · rw [List.mem_singleton.mp hu]
        rfl
    · exact List.pairwise_append.mpr ⟨h.order, List.pairwise_singleton .., fun _ _ v hv hd => by
        rw [List.mem_singleton.mp hv] at hd
        cases hd⟩
    · rcases List.mem_append.mp hu with hu | hu
      · exact Nat.lt_succ_of_lt (h.named.1 u hu)
      · rw [List.mem_singleton.mp hu]
        exact Nat.lt_succ_self _
    · rw [List.map_append]
      refine List.nodup_append.mpr ⟨h.named.2, List.nodup_singleton _, fun id hid k hk => ?_⟩
      obtain ⟨u, hu, rfl⟩ := List.mem_map.mp hid
      rw [List.map_singleton, List.mem_singleton] at hk
      exact hk ▸ Nat.ne_of_lt (h.named.1 u hu)
  · exact h

theorem ingressStands_respond (h : IngressStands none s) : IngressStands none s.respond := by
  unfold State.respond
  split
  · exact h
  · next u rest hq =>
    split
    · have sub {v : Ingress} (hv : v ∈ rest) : v ∈ s.ingress := hq ▸ List.mem_cons_of_mem _ hv
      have places := h.places
      have order := h.order
      have nodup := h.named.2
      rw [hq] at places order nodup
      exact ⟨(Nat.le_succ _).trans places, fun v hv => h.results v (sub hv), (List.pairwise_cons.mp order).2,
        ⟨fun v hv => h.named.1 v (sub hv), (List.nodup_cons.mp nodup).2⟩, fun _ _ e => by cases e⟩
    · exact h

theorem nextId_grantOne (s : State) : s.grantOne.nextId = s.nextId := by
  rcases grantOne_cases s with e | ⟨tag, r, rest, -, -, -, e⟩ | ⟨tag, x, -, -, -, -, e⟩ <;> rw [e] <;> rfl

/-! ## Move by move -/

theorem ingressStands_move (hm : Move c a s b t) (h : IngressStands a.judging s) : IngressStands b.judging t := by
  cases hm
  case add => exact h.congr (ingress_addRequest ..) (by
    rcases addRequest_cases s _ _ _ _ with ⟨-, -, e⟩ | ⟨-, -, e⟩ | ⟨-, -, e⟩ <;> rw [e] <;> rfl)
  case freeHead g _ => rcases freeHead_cases s g with ⟨-, e⟩ | ⟨x, rest, -, e⟩ <;> rw [e] <;> exact h.congr rfl rfl
  case enterReset => exact ⟨by simp [State.enterReset], by simp [State.enterReset], by simp [State.enterReset],
    ⟨by simp [State.enterReset], by simp [State.enterReset]⟩, fun _ _ e => by cases e⟩
  case handOver r _ =>
    exact h.congr (ingress_handOver s r) (nextId_grantOne _)
  case grant => exact h.congr (ingress_grantOne s) (nextId_grantOne s)
  case accept x _ hf => exact hf ▸ ingressStands_accept (hf ▸ h) x
  case respond hf => exact hf ▸ ingressStands_respond (hf ▸ h)
  case headFails u hf hu =>
    rw [hf] at h ⊢
    exact h.dispatchHead hu (fun _ => rfl) (fun _ => rfl) (by simp [Ingress.failWhole]) fun _ _ => rfl
  case judgingBegins u hf hu =>
    rw [hf] at h
    refine ⟨h.places, fun v hv => (h.results v hv).trans ?_, h.order, h.named, fun id k e => ?_⟩
    · simp [beatsDecided]
    · cases e
      exact ⟨u, hu, rfl⟩
  case beatDecided id k result hj =>
    obtain ⟨u, hu, hid⟩ := h.head id k hj
    refine h.modify id (change := Ingress.decideBeat result) (fun _ => rfl) (fun _ => rfl) (fun v hv => ?_) fun name n e => ?_
    · have hres := h.results v hv
      rw [hj] at hres
      by_cases hk : v.id = id
      · have hvu : v = u := h.eq_of_id hv (List.mem_of_find?_eq_some hu) (hk.trans hid.symm)
        have waits : v.dispatched = false := by simpa [hvu] using List.find?_some hu
        rw [if_pos hk]
        simp only [Ingress.HasResults, waits, hk, beatsDecided_self] at hres
        simpa [Ingress.HasResults, Ingress.decideBeat, waits, hk, beatsDecided_self] using hres
      · rw [if_neg hk]
        unfold Ingress.HasResults at hres ⊢
        rwa [beatsDecided_other hk] at hres ⊢
    · cases e
      exact ⟨k, hj⟩
  case judgingEnds u hj hu =>
    obtain ⟨v, hv, hid⟩ := h.head u.id _ hj
    obtain rfl : v = u := h.eq_of_id (List.mem_of_find?_eq_some hv) hu hid
    have waits : v.dispatched = false := by simpa using List.find?_some hv
    have hres := h.results v hu
    rw [hj] at hres
    refine h.dispatchHead hv (fun _ => rfl) (fun _ => rfl) ?_ fun id hid => ?_
    · simpa [Ingress.HasResults, Ingress.dispatch, waits, beatsDecided_self] using hres
    · rw [hj]
      exact beatsDecided_other hid _
  case passEnds tag r n m answer data _ _ =>
    refine (h.modify r.id (change := Ingress.finishBeat r.beat (r.result answer data)) (fun _ => rfl) (fun _ => rfl)
      (fun v hv => ?_) fun name k e => ⟨k, e⟩).congr rfl rfl
    have hres := h.results v hv
    split
    · exact List.length_set.trans hres
    · exact hres
  all_goals exact h.congr rfl rfl

/-- Settles O58, move by move: what is judged is the head, and its beats are decided one after another. -/
theorem ingressStaysInOrder : Obligations.IngressStaysInOrder := by
  unfold Obligations.IngressStaysInOrder
  intro s t ho hn h
  have stands := (moves_step (c := False) h False.elim).keeps (P := fun a s => IngressStands a.judging s)
    (fun hm hs => ingressStands_move hm hs) ((ingressStands_iff s).mpr ⟨ho, hn⟩)
  exact (ingressStands_iff t).mp stands

end Sys2Proof.Machine
end

section
/-!
The commands that read a record (R49, R61, R123, R130), the check code of a list (R47, R48), and the commands that write the
window table (R59, R60).
-/
namespace Sys2Proof.Machine

open Safety

variable {s : State} {f : Frame} {g : GroupId} {w : Fin 16}

/-! ## The commands that read a record -/

theorem entryReadReply_of_some {i : Nat} {e : Entry} (h : (s.group g).entries[i]? = some e) :
    entryReadReply g i s = report e.bytes s := by
  simp only [entryReadReply, h]

theorem entryReadReply_of_length_le {i : Nat} (h : (s.group g).entries.length ≤ i) :
    entryReadReply g i s = refuse .badIndex s := by
  simp only [entryReadReply, List.getElem?_eq_none h]

theorem Entry.bytes_eq (e : Entry) :
    e.bytes = bigEndian32 e.address.toNat ++ [BitVec.ofNat 8 e.mask.toNat] ++ bigEndian32 e.data.toNat := by
  rw [Entry.bytes, wordBytes_eq, wordBytes_eq, BitVec.ofNat_toNat 8 e.mask]

theorem loadBytes_eq (v : Option Half) : loadBytes v = yesNo v.isSome :: bigEndian16 (v.getD 0).toNat := by
  cases v <;> simp only [loadBytes, halfBytes_eq] <;> rfl

/-- Settles O14, command by command: the bytes of each record. -/
theorem readCommandsReturnTheirRecords : Obligations.ReadCommandsReturnTheirRecords := by
  unfold Obligations.ReadCommandsReturnTheirRecords
  refine ⟨fun s f g e h hl hi he => ?_, fun s f g h hl hi he => ?_, fun s f w h hl hi => ?_,
    fun s f h hl hi => next_takeFrame_badIndex h (by exact hl) hi _, fun s f p h hl hi => ?_,
    fun s f h hl hi => next_takeFrame_badIndex h (by exact hl) hi _, fun s f h hl => ?_⟩
  · refine next_takeFrame_indexed_same h (by exact hl) hi ((entryReadReply_of_some (by exact he)).trans ?_)
    rw [report, Entry.bytes_eq]
    rfl
  · exact next_takeFrame_indexed_same h (by exact hl) hi (entryReadReply_of_length_le (by exact he))
  · refine next_takeFrame_indexed_same h (by exact hl) hi ?_
    rw [report, Window.bytes, wordBytes_eq, wordBytes_eq]
    rfl
  · refine next_takeFrame_indexed_same h (by exact hl) hi ?_
    rw [report, LaunchPoint.bytes, halfBytes_eq, halfBytes_eq, countBytes_eq]
    rfl
  · refine congrArg _ (State.takeFrame_same h (by exact hl) ?_)
    rw [report, Timebase.bytes, halfBytes_eq, countBytes_eq, countBytes_eq, countBytes_eq, countBytes_eq, loadBytes_eq]
    rfl

/-! ## The check code (R47, R48) -/

theorem crcStep_eq (x : Word) : crcStep x = if x.toNat % 2 = 1 then (x >>> 1) ^^^ 0xEDB88320#32 else x >>> 1 := by
  have bit : x.getLsbD 0 = decide (x.toNat % 2 = 1) := Nat.testBit_zero ..
  simp only [crcStep, bit, decide_eq_true_eq]

theorem Entry.checkBytes_eq (e : Entry) : e.checkBytes =
    [BitVec.ofNat 8 e.address.toNat, BitVec.ofNat 8 (e.address.toNat / 256), BitVec.ofNat 8 (e.address.toNat / 65536),
      BitVec.ofNat 8 (e.address.toNat / 16777216), BitVec.ofNat 8 e.mask.toNat,
      BitVec.ofNat 8 e.data.toNat, BitVec.ofNat 8 (e.data.toNat / 256), BitVec.ofNat 8 (e.data.toNat / 65536),
      BitVec.ofNat 8 (e.data.toNat / 16777216)] := by
  simp [Entry.checkBytes, BitVec.extractLsb', Nat.shiftRight_eq_div_pow]

/-- Settles O17: the bytes of an entry and one step of the CRC, each as the manual gives them. -/
theorem checkCodeIsTheCrcOfTheList : Obligations.CheckCodeIsTheCrcOfTheList := by
  unfold Obligations.CheckCodeIsTheCrcOfTheList
  refine ⟨fun es => ?_, fun bs => ?_, by decide +kernel, by decide +kernel⟩
  · exact congrArg (fun bytes : Entry → List Byte => crc (es.flatMap bytes)) (funext Entry.checkBytes_eq)
  · have step : crcStep = fun x : Word => if x.toNat % 2 = 1 then (x >>> 1) ^^^ 0xEDB88320#32 else x >>> 1 := funext crcStep_eq
    rw [← step]
    simp only [BitVec.ofNat_toNat]
    rfl

/-! ## The window table (R59, R60) -/

theorem windowBusy_iff (s : State) (w : Fin 16) :
    s.windowBusy w = true ↔ (s.window w).valid = true ∧ (s.group (s.window w).group).state = .releasing := by
  simp [State.windowBusy]

/-- R186: a frame whose fields are those of a valid window carries it. -/
theorem windowOf_eq_some {r : Window} (hv : r.valid = true) (hb : r.base = f.word 2) (hl : r.limit = f.word 6)
    (hb64 : r.base.toNat % 64 = 0) (hl64 : r.limit.toNat % 64 = 0) (hle : r.base.toNat ≤ r.limit.toNat)
    (hg : r.group.val = (f.byte 10).toNat) (hm : r.miss.code = f.byte 11) (hr : r.read.code = f.byte 12) :
    windowOf f = some r := by
  unfold windowOf
  rw [number?_of_eq hg.symm, ← hm, ← hr, missPolicyOf_code, readPolicyOf_code, ← hb, ← hl]
  refine (if_pos ⟨hb64, hl64, hle⟩).trans ?_
  rw [← hv]

/-- R186: a frame with a field out of range carries none. -/
theorem windowOf_eq_none (h : (f.word 2).toNat % 64 ≠ 0 ∨ (f.word 6).toNat % 64 ≠ 0 ∨ (f.word 6).toNat < (f.word 2).toNat ∨
    7 < (f.byte 10).toNat ∨ 1 < (f.byte 11).toNat ∨ 1 < (f.byte 12).toNat) : windowOf f = none := by
  unfold windowOf
  split
  · next hg hm hr =>
    refine if_neg fun ⟨hb64, hl64, hle⟩ => ?_
    rcases h with h | h | h | h | h | h
    · exact h hb64
    · exact h hl64
    · exact Nat.not_le.mpr h hle
    · simp [number?_of_ge h] at hg
    · simp [named_values_above_one _ h] at hm
    · simp [named_values_above_one _ h] at hr
  · rfl

theorem windowSetReply_of_none (h : windowOf f = none) : windowSetReply f s w = ⟨s, [0x03]⟩ := by
  simp only [windowSetReply, h]
  rfl

theorem windowSetReply_busy {r : Window} (h : windowOf f = some r)
    (hb : ((s.window w).valid = true ∧ (s.group (s.window w).group).state = .releasing) ∨
      (s.group r.group).state = .releasing) : windowSetReply f s w = ⟨s, [0x07]⟩ := by
  simp only [windowSetReply, h]
  exact if_pos (by simpa [windowBusy_iff] using hb)

theorem windowSetReply_writes {r : Window} (h : windowOf f = some r)
    (hb : ¬ (((s.window w).valid = true ∧ (s.group (s.window w).group).state = .releasing) ∨
      (s.group r.group).state = .releasing)) : windowSetReply f s w = ⟨s.setWindow w r, [0x00]⟩ := by
  simp only [windowSetReply, h]
  exact if_neg (by simpa [windowBusy_iff] using hb)

theorem windowClearReply_busy (hv : (s.window w).valid = true) (hs : (s.group (s.window w).group).state = .releasing) :
    windowClearReply s w = ⟨s, [0x07]⟩ :=
  if_pos ((windowBusy_iff s w).mpr ⟨hv, hs⟩)

theorem windowClearReply_clears (h : ¬ ((s.window w).valid = true ∧ (s.group (s.window w).group).state = .releasing)) :
    windowClearReply s w = ⟨s.setWindow w { s.window w with valid := false }, [0x00]⟩ :=
  if_neg (mt (windowBusy_iff s w).mp h)

/-- R60: clearing an invalid window changes nothing. -/
theorem windowClearReply_of_invalid (hv : (s.window w).valid = false) : windowClearReply s w = ⟨s, [0x00]⟩ := by
  have same : ({ s.window w with valid := false } : Window) = s.window w := by rw [← hv]
  rw [windowClearReply_clears (by simp [hv]), same, State.setWindow_window]

/-- Settles O26, by whether the frame carries a window and whether a RELEASING group holds the table. -/
theorem windowCommandsWriteTheTable : Obligations.WindowCommandsWriteTheTable := by
  unfold Obligations.WindowCommandsWriteTheTable
  refine ⟨fun s f h hi => ⟨fun hl => next_takeFrame_badIndex h (by exact hl) hi _,
    fun hl => next_takeFrame_badIndex h (by exact hl) hi _⟩, ?_, fun s f w h hl hi hbad => ?_, fun s f w h hl hi => ⟨?_, ?_, ?_⟩⟩
  · intro s f w r h hl hi hv hb hlim hb64 hl64 hle hg hm hr
    have carried := windowOf_eq_some hv hb hlim hb64 hl64 hle hg hm hr
    split
    · next hbusy => exact next_takeFrame_indexed_same h (by exact hl) hi (windowSetReply_busy carried hbusy)
    · next hfree => exact next_takeFrame_indexed h (by exact hl) hi (windowSetReply_writes carried hfree)
  · exact next_takeFrame_indexed_same h (by exact hl) hi (windowSetReply_of_none (windowOf_eq_none hbad))
  · exact fun hv hs => next_takeFrame_indexed_same h (by exact hl) hi (windowClearReply_busy hv hs)
  · exact fun _ hs => next_takeFrame_indexed h (by exact hl) hi (windowClearReply_clears fun hb => hs hb.2)
  · exact fun hv => next_takeFrame_indexed_same h (by exact hl) hi (windowClearReply_of_invalid hv)

end Sys2Proof.Machine
end

section
/-!
The system port: the places of the ingress queue (R52, R53, R56), the governing window (R58), and the judgement of the head with
its boundary check, its fence test and its beats (R54, R55, R63).
-/
namespace Sys2Proof.Machine

open Safety

variable {s : State} {address : Word} {u : Ingress} {before behind : List Ingress} {gap : State → State}

/-! ## The places of the ingress queue (R52, R53, R56) -/

theorem exec_acceptance (h : TakesEvents s) {x : Transaction} (hx : x.wellFormed = true) :
    exec (.acceptance x) s = .next (s.acceptTransaction x) :=
  (if_pos hx).trans (congrArg _ (State.whenRunning_taken h))

theorem exec_transactionResponse (h : TakesEvents s) : exec .transactionResponse s = .next s.respond :=
  congrArg _ (State.whenRunning_taken h)

theorem wellFormed_eq_false {x : Transaction} (h : x.start.toNat % 4 ≠ 0 ∨ x.beatCount = 0 ∨ 16 < x.beatCount) :
    x.wellFormed = false := by
  rw [Bool.eq_false_iff]
  intro hx
  simp only [Transaction.wellFormed, Bool.and_eq_true, beq_iff_eq, decide_eq_true_eq] at hx
  omega

theorem isFinished_iff (b : BeatResult) : b.isFinished = true ↔ b ≠ .outstanding := by
  cases b <;> simp [BeatResult.isFinished]

theorem isComplete_iff (u : Ingress) : u.isComplete = true ↔ u.dispatched = true ∧ ∀ b ∈ u.results, b ≠ .outstanding := by
  simp [Ingress.isComplete, isFinished_iff]

/-- R56: the beat has finished ERROR. -/
def BeatResult.hasFailed : BeatResult → Bool
  | .finished .error _ => true
  | _ => false

/-- R56: among finished beats, one that is not OKAY is an ERROR. -/
theorem all_isOkay_eq {results : List BeatResult} (h : ∀ b ∈ results, b ≠ .outstanding) :
    results.all BeatResult.isOkay = !results.any BeatResult.hasFailed := by
  have each : ∀ b ∈ results, b.isOkay = !b.hasFailed := fun b hb => by
    rcases b with _ | ⟨_ | _, _⟩
    · exact absurd rfl (h _ hb)
    · rfl
    · rfl
  rw [List.not_any_eq_all_not, Bool.eq_iff_iff, List.all_eq_true, List.all_eq_true]
  exact forall₂_congr fun b hb => by rw [each b hb]

theorem systemResponse_read {n : Nat} (ht : u.request.transfer = .read n) :
    u.systemResponse = .read u.request.requester u.results := by
  simp only [Ingress.systemResponse, ht]

theorem systemResponse_write {beats : List WriteBeat} (ht : u.request.transfer = .write beats)
    (h : ∀ b ∈ u.results, b ≠ .outstanding) :
    u.systemResponse = .write u.request.requester (if u.results.any BeatResult.hasFailed then .error else .okay) := by
  simp only [Ingress.systemResponse, ht, all_isOkay_eq h]
  cases u.results.any BeatResult.hasFailed <;> rfl

/-- Settles O31, by whether a place is free and whether the oldest transaction is complete. -/
theorem transactionsEnterAndLeaveInOrder : Obligations.TransactionsEnterAndLeaveInOrder := by
  unfold Obligations.TransactionsEnterAndLeaveInOrder
  refine ⟨fun s x h hx hl => ?_, fun s x h hx hl => ?_, fun s x hx => ?_, fun s u rest h hq hd hr => ?_, fun s h hq => ?_⟩
  · rw [exec_acceptance h hx, State.acceptTransaction, if_pos hl]
  · rw [exec_acceptance h hx, State.acceptTransaction, if_neg (Nat.not_lt.mpr hl)]
  · exact if_neg (by simp [wellFormed_eq_false hx])
  · rw [exec_transactionResponse h, State.respond, hq]
    refine congrArg _ ((if_pos ((isComplete_iff u).mpr ⟨hd, hr⟩)).trans ?_)
    cases ht : u.request.transfer with
    | read n => rw [systemResponse_read ht]
    | write beats =>
      rw [systemResponse_write ht hr]
      rfl
  · rw [exec_transactionResponse h, State.respond]
    split
    · rfl
    · next u rest hs =>
      refine congrArg _ (if_neg fun hc => ?_)
      obtain ⟨hd, hr⟩ := (isComplete_iff u).mp hc
      rcases hq u rest hs with hw | ho
      · simp [hd] at hw
      · exact hr _ ho rfl

/-! ## The governing window (R58) -/

theorem covers_iff (w : Window) (address : Word) : w.covers address = true ↔
    w.valid = true ∧ w.base.toNat ≤ address.toNat ∧ address.toNat ≤ w.limit.toNat + 63 := by
  simp [Window.covers, and_assoc]

theorem governing_eq (s : State) (address : Word) :
    s.governing address = (allWindows.find? fun i => (s.window i).covers address).map s.window := by
  rw [State.governing, List.find?_map]
  rfl

theorem allWindows_getElem (i : Fin 16) : allWindows[i.val]? = some i := by revert i; decide

/-- R58: the window found is the lowest-numbered one. -/
theorem findWindow_eq_some_iff (s : State) (address : Word) (i : Fin 16) :
    (allWindows.find? fun i => (s.window i).covers address) = some i ↔ Governs s address i := by
  have covers (j : Fin 16) := covers_iff (s.window j) address
  obtain ⟨hi, hat⟩ := List.getElem?_eq_some_iff.mp (allWindows_getElem i)
  rw [List.find?_eq_some_iff_getElem]
  constructor
  · intro ⟨hcov, n, hn, hatn, hlow⟩
    have place : n = i.val := by
      obtain ⟨_, hatn'⟩ := List.getElem?_eq_some_iff.mp (allWindows_getElem ⟨n, hn⟩)
      exact congrArg Fin.val (hatn'.symm.trans hatn)
    refine ⟨(covers i).mp hcov, fun j hj hc => ?_⟩
    obtain ⟨_, hatj⟩ := List.getElem?_eq_some_iff.mp (allWindows_getElem j)
    have apart := hlow j.val (place ▸ hj)
    rw [hatj, (covers j).mpr hc] at apart
    cases apart
  · intro ⟨hcov, hlow⟩
    refine ⟨(covers i).mpr hcov, i.val, hi, hat, fun j hj => ?_⟩
    have hj16 : j < 16 := hj.trans i.isLt
    obtain ⟨_, hatj⟩ := List.getElem?_eq_some_iff.mp (allWindows_getElem ⟨j, hj16⟩)
    rw [hatj]
    simpa using mt (covers ⟨j, hj16⟩).mp (hlow ⟨j, hj16⟩ hj)

theorem findWindow_eq_none_iff (s : State) (address : Word) :
    (allWindows.find? fun i => (s.window i).covers address) = none ↔ NotGoverned s address := by
  have all (i : Fin 16) : i ∈ allWindows := List.mem_of_getElem? (allWindows_getElem i)
  rw [List.find?_eq_none]
  exact ⟨fun h i => mt (covers_iff ..).mpr (h i (all i)), fun h i _ => mt (covers_iff ..).mp (h i)⟩

theorem governing_of_governs {i : Fin 16} (h : Governs s address i) : s.governing address = some (s.window i) := by
  rw [governing_eq, (findWindow_eq_some_iff s address i).mpr h]
  rfl

theorem governing_of_notGoverned (h : NotGoverned s address) : s.governing address = none := by
  rw [governing_eq, (findWindow_eq_none_iff s address).mpr h]
  rfl

/-- R58: an address has a governing window or none. -/
theorem governs_or_not (s : State) (address : Word) : (∃ i, Governs s address i) ∨ NotGoverned s address := by
  cases h : allWindows.find? fun i => (s.window i).covers address with
  | some i => exact .inl ⟨i, (findWindow_eq_some_iff s address i).mp h⟩
  | none => exact .inr ((findWindow_eq_none_iff s address).mp h)

/-- Settles O32. -/
theorem lowestValidWindowGoverns : Obligations.LowestValidWindowGoverns := by
  unfold Obligations.LowestValidWindowGoverns
  exact ⟨fun _ _ _ h => governing_of_governs h, fun _ _ h => governing_of_notGoverned h⟩

/-! ## The fence test (R63) -/

/-- R63: a beat that a RELEASING group governs meets the fence. -/
theorem fencedBeat_of_governs {x : Transaction} {k : Nat} {i : Fin 16} (h : Governs s (beatAt x k) i) :
    s.fencedBeat x k = if (s.group (s.window i).group).state = .releasing then some (s.window i).group else none := by
  simp only [State.fencedBeat, governing_of_governs (show Governs s (x.beatAddress k) i from h), beq_iff_eq]

theorem fencedBeat_of_not_fenced {x : Transaction} {k : Nat} (h : ¬ BeatFenced s x k) : s.fencedBeat x k = none := by
  rcases governs_or_not s (beatAt x k) with ⟨i, hi⟩ | hn
  · rw [fencedBeat_of_governs hi, if_neg fun hr => h ⟨i, hi, hr⟩]
  · simp only [State.fencedBeat, governing_of_notGoverned (show NotGoverned s (x.beatAddress k) from hn)]

theorem fenceTest_of_not_fenced {x : Transaction} (h : ¬ Fenced s x) : s.fenceTest x = none :=
  List.findSome?_eq_none_iff.mpr fun k hk => fencedBeat_of_not_fenced fun hf => h ⟨k, List.mem_range.mp hk, hf⟩

/-- The first number below `n` that has a value. -/
theorem findSome?_range {α : Type} {f : Nat → Option α} {n k : Nat} {a : α} (hk : k < n) (hf : f k = some a)
    (hlow : ∀ j, j < k → f j = none) : (List.range n).findSome? f = some a := by
  induction n with
  | zero => exact absurd hk (Nat.not_lt_zero k)
  | succ n ih =>
    rw [List.range_succ, List.findSome?_append]
    rcases Nat.lt_succ_iff_lt_or_eq.mp hk with hlt | rfl
    · rw [ih hlt, Option.some_or]
    · rw [List.findSome?_eq_none_iff.mpr fun j hj => hlow j (List.mem_range.mp hj)]
      simp [hf]

theorem fenceTest_of_first {x : Transaction} {k : Nat} {i : Fin 16} (hk : k < x.beatCount) (hi : Governs s (beatAt x k) i)
    (hr : (s.group (s.window i).group).state = .releasing) (hlow : ∀ j, j < k → ¬ BeatFenced s x j) :
    s.fenceTest x = some (s.window i).group :=
  findSome?_range hk ((fencedBeat_of_governs hi).trans (if_pos hr)) fun j hj => fencedBeat_of_not_fenced (hlow j hj)

/-! ## The judgement of the head (R54, R55) -/

theorem exec_judgement (h : TakesEvents s) : exec .judgement s = .next (s.judge State.betweenBeats) :=
  congrArg _ (State.whenRunning_taken h)

theorem crossesBlock_iff (x : Transaction) : x.crossesBlock = true ↔ ¬ InOneBlock x := by
  simp [Transaction.crossesBlock, Transaction.beatAddress, blockOf, InOneBlock]

theorem head?_of_isHead (h : IsHead s u before behind) : s.head? = some u := by
  obtain ⟨hq, hw, hb, -⟩ := h
  exact List.find?_eq_some_iff_append.mpr ⟨by simp [hw], before, behind, hq, fun v hv => by simp [hb v hv]⟩

/-- R54: only the head changes by a judgement. -/
theorem modifyIngress_head (h : IsHead s u before behind) (change : Ingress → Ingress) :
    s.modifyIngress u.id change = { s with ingress := before ++ change u :: behind } := by
  obtain ⟨hq, -, -, hid⟩ := h
  unfold State.modifyIngress
  rw [hq, map_of_one hid]
  rfl

theorem judge_of_nothing (h : (∀ u ∈ s.ingress, u.dispatched = true) ∨ s.fencedOn ≠ none) : s.judge gap = s := by
  rcases judge_cases s gap with ⟨-, e⟩ | ⟨u, hu, hf, -⟩
  · exact e
  · rcases h with h | h
    · have waits : u.dispatched = false := by simpa using List.find?_some hu
      exact absurd (h u (List.mem_of_find?_eq_some hu)) (by simp [waits])
    · exact absurd hf h

theorem judge_of_crossing (hf : s.fencedOn = none) (h : IsHead s u before behind) (hc : ¬ InOneBlock u.request) :
    s.judge gap = s.modifyIngress u.id Ingress.failWhole := by
  simp only [State.judge, head?_of_isHead h, hf, State.judgeHead]
  exact if_pos ((crossesBlock_iff _).mpr hc)

theorem judge_of_fenced (hf : s.fencedOn = none) (h : IsHead s u before behind) (hc : InOneBlock u.request) {g : GroupId}
    (ht : s.fenceTest u.request = some g) : s.judge gap = { s with fencedOn := some g } := by
  simp only [State.judge, head?_of_isHead h, hf, State.judgeHead, ht]
  exact if_neg (mt (crossesBlock_iff _).mp (not_not_intro hc))

theorem judge_of_clear (hf : s.fencedOn = none) (h : IsHead s u before behind) (hc : InOneBlock u.request)
    (ht : ¬ Fenced s u.request) :
    s.judge gap = (s.decideBeats gap u.id u.request).modifyIngress u.id Ingress.dispatch := by
  simp only [State.judge, head?_of_isHead h, hf, State.judgeHead, fenceTest_of_not_fenced ht]
  exact if_neg (mt (crossesBlock_iff _).mp (not_not_intro hc))

/-- Settles O33: nothing to judge, the boundary check, and the first beat that meets the fence. -/
theorem judgementChecksBoundaryThenFence : Obligations.JudgementChecksBoundaryThenFence := by
  unfold Obligations.JudgementChecksBoundaryThenFence
  refine ⟨fun s h hn => ?_, fun s u before behind h hf hu hc => ?_, fun s u before behind h hf hu hc hfenced => ?_⟩
  · rw [exec_judgement h, judge_of_nothing hn, judge_of_nothing hn]
    exact ⟨rfl, rfl⟩
  · refine ⟨_, rfl, ?_⟩
    rw [exec_judgement h, judge_of_crossing hf hu hc, judge_of_crossing hf hu hc, modifyIngress_head hu]
    exact ⟨rfl, rfl⟩
  · classical
    obtain ⟨hk, i, hi, hr⟩ := Nat.find_spec hfenced
    have hlow (j : Nat) (hj : j < Nat.find hfenced) : ¬ BeatFenced s u.request j :=
      fun hb => Nat.find_min hfenced hj ⟨hj.trans hk, hb⟩
    have test := fenceTest_of_first hk hi hr hlow
    refine ⟨Nat.find hfenced, i, hk, hi, hr, hlow, ?_, judge_of_fenced hf hu hc test⟩
    rw [exec_judgement h, judge_of_fenced hf hu hc test]

end Sys2Proof.Machine
end

section
/-!
The beats of a judged head, in their order, and what comes between two of them (R40, R54, R70).
-/
namespace Sys2Proof.Machine

open Safety

variable {s : State} {u : Ingress} {before behind : List Ingress} {gap : State → State} {x : Transaction}

/-! ## Between two beats (R54, R70) -/

theorem exec_rowOf (h : TakesEvents s) (event : PortEvent) (hb : ¬ Barred s event) :
    exec (rowOf event) s = .next (s.takeBetween event) := by
  cases event with
  | response t answer data =>
    have taken : s.takeBetween (.response t answer data) = s.takeResponse t answer data :=
      if_neg (mt (barredBetweenBeats_iff ..).mp hb)
    rw [taken]
    exact congrArg _ (State.whenRunning_taken h)
  | timeout t =>
    have taken : s.takeBetween (.timeout t) = s.timeOut t :=
      if_neg (mt (barredBetweenBeats_iff ..).mp hb)
    rw [taken]
    exact congrArg _ (State.whenRunning_taken h)

theorem takeBetween_of_barred {event : PortEvent} (hb : Barred s event) : s.takeBetween event = s := by
  cases event with
  | response t answer data => exact if_pos ((barredBetweenBeats_iff ..).mpr hb)
  | timeout t => exact if_pos ((barredBetweenBeats_iff ..).mpr hb)

theorem takesEvents_takeResponse (h : TakesEvents s) (t : TagId) (answer : Answer) (data : Word) :
    TakesEvents (s.takeResponse t answer data) := by
  rcases takeResponse_cases s t answer data with ⟨-, e⟩ | ⟨-, e⟩ | ⟨r, n, m, -, e⟩ <;> rw [e]
  · exact h
  · exact takesEvents_quiet (s := s.setTag t .free) h (quiet_grantAll _)
  · have freed : TakesEvents ((s.handBack r answer data).setTag t .free) := takesEvents_handBack h r answer data
    exact takesEvents_quiet freed (quiet_grantAll _)

theorem takesEvents_takeBetween (h : TakesEvents s) (event : PortEvent) : TakesEvents (s.takeBetween event) := by
  rcases takeBetween_cases s event with e | ⟨t, answer, data, -, -, e⟩ | ⟨t, -, -, e⟩ <;> rw [e]
  · exact h
  · exact takesEvents_takeResponse h t answer data
  · exact takesEvents_timeOut h t

theorem takenBetween_foldl (h : TakesEvents s) (events : List PortEvent) :
    TakenBetween events s (events.foldl State.takeBetween s) := by
  induction events generalizing s with
  | nil => rfl
  | cons e rest ih =>
    exact ⟨s.takeBetween e, takeBetween_of_barred, exec_rowOf h e, ih (takesEvents_takeBetween h e)⟩

theorem betweenBeats_between (h : TakesEvents s) : BetweenBeats s s.betweenBeats := by
  have free : (allTags.all fun t => (s.tag t).isFree) = true ↔ ∀ v, s.tag v = .free := by
    have member (k : TagId) : k ∈ allTags := by revert k; decide
    rw [List.all_eq_true]
    exact ⟨fun h v => (isFree_iff _).mp (h v (member v)), fun h v _ => (isFree_iff _).mpr (h v)⟩
  unfold State.betweenBeats BetweenBeats
  by_cases hf : ∀ v, s.tag v = .free
  · rw [if_pos hf, if_pos (free.mpr hf)]
  · rw [if_neg hf, if_neg (mt free.mp hf)]
    exact takenBetween_foldl (s := s.useFree) h _

theorem takesEvents_betweenBeats (h : TakesEvents s) : TakesEvents s.betweenBeats := by
  unfold State.betweenBeats
  split
  · exact h
  · exact List.foldlRecOn _ _ h fun _ ht event _ => takesEvents_takeBetween ht event

/-! ## Beat by beat (R54) -/

/-- R54: the decision of beat `k`, whatever the kind of the transaction. -/
def State.decideBeat (s : State) (id : Nat) (x : Transaction) (k : Nat) : State × BeatResult :=
  match x.transfer with
  | .read _ => s.decideRead id x k
  | .write beats =>
    match beats[k]? with
    | some b => s.decideWrite id x k b
    | none => (s, .outstanding)

theorem decideBeat_read {n : Nat} (hx : x.transfer = .read n) (s : State) (id k : Nat) :
    s.decideBeat id x k = s.decideRead id x k := by
  simp only [State.decideBeat, hx]

theorem decideBeat_write {beats : List WriteBeat} (hx : x.transfer = .write beats) {k : Nat} {b : WriteBeat}
    (hb : beats[k]? = some b) (s : State) (id : Nat) : s.decideBeat id x k = s.decideWrite id x k b := by
  simp only [State.decideBeat, hx, hb]

/-- R54: the state after the first `k` beats have been dispatched. -/
def State.afterBeats (s : State) (gap : State → State) (id : Nat) (x : Transaction) : Nat → State
  | 0 => s
  | k + 1 => State.dispatchBeat id (((s.afterBeats gap id x k).beforeBeat gap k).decideBeat id x k)

theorem decideReads_afterBeats {n : Nat} (hx : x.transfer = .read n) (s : State) (id k m : Nat) :
    (s.afterBeats gap id x k).decideReads gap id x k m = s.afterBeats gap id x (k + m) := by
  induction m generalizing k with
  | zero => rfl
  | succ m ih =>
    have next := ih (k + 1)
    rw [State.afterBeats, decideBeat_read hx] at next
    rw [State.decideReads, next]
    congr 1
    omega

theorem decideWrites_afterBeats {beats : List WriteBeat} (hx : x.transfer = .write beats) (s : State) (id k : Nat)
    {rest : List WriteBeat} (hr : beats.drop k = rest) :
    (s.afterBeats gap id x k).decideWrites gap id x k rest = s.afterBeats gap id x (k + rest.length) := by
  induction rest generalizing k with
  | nil => rfl
  | cons b rest ih =>
    have at_k : beats[k]? = some b := by
      rw [← List.head?_drop, hr]
      rfl
    have tail : beats.drop (k + 1) = rest := by
      rw [← List.tail_drop, hr]
      rfl
    have next := ih (k + 1) tail
    rw [State.afterBeats, decideBeat_write hx at_k] at next
    rw [State.decideWrites, next, List.length_cons]
    congr 1
    omega

theorem decideBeats_eq (s : State) (id : Nat) : s.decideBeats gap id x = s.afterBeats gap id x x.beatCount := by
  unfold State.decideBeats Transaction.beatCount
  cases hx : x.transfer with
  | read n => exact (decideReads_afterBeats hx s id 0 n).trans (by rw [Nat.zero_add])
  | write beats => exact (decideWrites_afterBeats hx s id 0 (rest := beats) rfl).trans (by rw [Nat.zero_add])

theorem takesEvents_decideBeat (h : TakesEvents s) (id k : Nat) : TakesEvents (s.decideBeat id x k).1 := by
  unfold State.decideBeat
  split
  · exact takesEvents_quiet h (quiet_decideRead ..)
  · split
    · exact takesEvents_quiet h (quiet_decideWrite ..)
    · exact h

theorem takesEvents_afterBeats (hg : ∀ s, TakesEvents s → TakesEvents (gap s)) (h : TakesEvents s) (id k : Nat) :
    TakesEvents (s.afterBeats gap id x k) := by
  induction k with
  | zero => exact h
  | succ k ih =>
    have start : TakesEvents ((s.afterBeats gap id x k).beforeBeat gap k) := by
      unfold State.beforeBeat
      split
      · exact ih
      · exact hg _ ih
    exact takesEvents_decideBeat start id k

/-- R54: what the judgement makes of a head that passes both checks. -/
theorem beatsDecided_judge {between : State → State → Prop} (hg : ∀ s, TakesEvents s → TakesEvents (gap s))
    (hb : ∀ s, TakesEvents s → between s (gap s)) (h : TakesEvents s) (hf : s.fencedOn = none) (hu : IsHead s u before behind)
    (hc : InOneBlock u.request) (ht : ¬ Fenced s u.request) : BeatsDecided between s u (s.judge gap) := by
  refine ⟨fun k => (s.afterBeats gap u.id u.request k).beforeBeat gap k, s.afterBeats gap u.id u.request, rfl, rfl,
    fun k hk _ => ?_, fun beats k b hx hat => ?_, fun n k hx _ => ?_, ?_⟩
  · have gapped : (s.afterBeats gap u.id u.request k).beforeBeat gap k = gap (s.afterBeats gap u.id u.request k) :=
      if_neg (Nat.pos_iff_ne_zero.mp hk)
    simp only [gapped]
    exact hb _ (takesEvents_afterBeats hg h u.id k)
  · exact congrArg (State.dispatchBeat u.id) (decideBeat_write hx hat _ _)
  · exact congrArg (State.dispatchBeat u.id) (decideBeat_read hx _ _ _)
  · rw [judge_of_clear hf hu hc ht, decideBeats_eq]
    rfl

/-- Settles O34: the judgement with what the command JUDGEMENT has between two beats, and with nothing there. -/
theorem judgementDecidesEveryBeatInOrder : Obligations.JudgementDecidesEveryBeatInOrder := by
  unfold Obligations.JudgementDecidesEveryBeatInOrder
  intro s u before behind h hf hu hc ht
  exact ⟨⟨_, exec_judgement h,
      beatsDecided_judge (fun _ => takesEvents_betweenBeats) (fun _ => betweenBeats_between) h hf hu hc ht⟩,
    beatsDecided_judge (fun _ => id) (fun _ _ => rfl) h hf hu hc ht⟩

end Sys2Proof.Machine
end

section
/-!
What is made of a beat: write beats that are captured, miss or pass (R67 to R73), and read beats that are overlaid (R74, R75).
-/
namespace Sys2Proof.Machine

open Safety

variable {s : State} {g : GroupId} {i : Fin 16} {id k : Nat} {x : Transaction} {b : WriteBeat} {address : Word}

/-! ## The three ways of a write beat (R67, R69) -/

theorem passesFilter_iff (c : GroupConfig) (requester : Fin 16) :
    c.passesFilter requester = true ↔ PassesFilter c requester := by
  unfold GroupConfig.passesFilter
  cases h : c.filter <;> simp [PassesFilter, h]

theorem decideWrite_unmasked (hb : b.mask = 0) : s.decideWrite id x k b = (s, .finished .okay 0) := if_pos hb

theorem decideWrite_ungoverned (hb : b.mask ≠ 0) (h : NotGoverned s (beatAt x k)) :
    s.decideWrite id x k b = (s.handOver (passWrite id k (beatAt x k) b none), .outstanding) := by
  unfold State.decideWrite
  rw [if_neg hb, governing_of_notGoverned (show NotGoverned s (x.beatAddress k) from h)]
  rfl

/-- R69: a beat is captured for a group that is OPEN and whose filter the requester passes. -/
theorem decideWrite_governed (hb : b.mask ≠ 0) (h : Governs s (beatAt x k) i) (hg : g = (s.window i).group) :
    s.decideWrite id x k b =
      if (s.group g).state = .opened ∧ PassesFilter (s.group g).config x.requester then s.captureBeat id k (beatAt x k) b g
      else s.missBeat id k (beatAt x k) b (s.window i) := by
  unfold State.decideWrite
  rw [if_neg hb, governing_of_governs (show Governs s (x.beatAddress k) i from h), hg]
  simp only [Bool.and_eq_true, beq_iff_eq, passesFilter_iff]
  rfl

/-! ## Write misses (R72, R73) -/

theorem holdsFixedEntries_iff (st : GroupState) :
    st.holdsFixedEntries = true ↔ st = .closed ∨ st = .armed ∨ st = .pending ∨ st = .faulted := by
  cases st <;> simp [GroupState.holdsFixedEntries]

theorem checkCollision_hits (hs : (s.group g).state = .closed ∨ (s.group g).state = .armed ∨ (s.group g).state = .pending ∨
    (s.group g).state = .faulted) (he : ∃ e ∈ (s.group g).entries, e.address = address) :
    s.checkCollision g address = s.setGroup g (s.group g).collide := by
  have held : ¬ (s.lookup g address).isEmpty = true := fun hn => by
    obtain ⟨e, hmem, ha⟩ := he
    exact (lookup_isEmpty_iff s g address).mp hn e hmem ha
  exact if_pos (by simp [(holdsFixedEntries_iff _).mpr hs, held])

theorem checkCollision_passes (h : (s.group g).state = .idle ∨ (s.group g).state = .opened ∨
    (s.group g).state = .releasing ∨ ∀ e ∈ (s.group g).entries, e.address ≠ address) : s.checkCollision g address = s := by
  refine if_neg ?_
  rcases h with h | h | h | h
  · simp [h, GroupState.holdsFixedEntries]
  · simp [h, GroupState.holdsFixedEntries]
  · simp [h, GroupState.holdsFixedEntries]
  · simp [(lookup_isEmpty_iff s g address).mpr h]

theorem missBeat_refused {w : Window} (h : w.miss = .refuse) : s.missBeat id k address b w = (s, .finished .error 0) := by
  simp only [State.missBeat, h]

theorem missBeat_passed {w : Window} (h : w.miss = .pass) : s.missBeat id k address b w =
    ((s.checkCollision w.group address).handOver (passWrite id k address b (some w.group)), .outstanding) := by
  simp only [State.missBeat, h]

/-- Settles O35: the mask, the governing window, the group and its filter, and the write-miss policy. -/
theorem writeBeatsThatMiss : Obligations.WriteBeatsThatMiss := by
  unfold Obligations.WriteBeatsThatMiss
  refine fun s id k x b => ⟨decideWrite_unmasked, decideWrite_ungoverned, fun i g hb hi hg hmiss => ?_⟩
  have missed : s.decideWrite id x k b = s.missBeat id k (beatAt x k) b (s.window i) :=
    (decideWrite_governed hb hi hg).trans (if_neg (not_and_or.mpr hmiss))
  refine ⟨fun hr => missed.trans (missBeat_refused hr), fun hp hs he => ?_, fun hp hn => ?_⟩
  · rw [missed, missBeat_passed hp, ← hg, checkCollision_hits hs he]
    rfl
  · rw [missed, missBeat_passed hp, ← hg, checkCollision_passes hn]
    rfl

/-! ## Captured beats (R34 to R38, R68, R70, R71) -/

theorem addRequest_merges {data : Word} {mask : Mask} {e : Entry} {before behind : List Entry}
    (hm : (s.group g).config.mode = .coalesce) (hl : (s.group g).entries = before ++ e :: behind) (he : e.address = address)
    (hb : ∀ y ∈ before, y.address ≠ address) : s.addRequest g address data mask =
      (s.setGroup g { s.group g with entries := before ++ e.merge data mask :: behind }, .merged) := by
  have held : e ∈ (s.group g).entries := hl ▸ List.mem_append_right _ (List.mem_cons_self ..)
  have noNew : ¬ ((s.group g).config.mode = .ordered ∨ ∀ e ∈ (s.group g).entries, e.address ≠ address) := by
    rintro (ho | hn)
    · simp [hm] at ho
    · exact hn e held he
  rcases addRequest_cases s g address data mask with ⟨-, -, h⟩ | ⟨ho, -⟩ | ⟨ho, -⟩
  · rw [h, hl, mergeInto_append data mask hb he]
  · exact absurd ho noNew
  · exact absurd ho noNew

theorem not_merges (h : (s.group g).config.mode = .ordered ∨ ∀ e ∈ (s.group g).entries, e.address ≠ address) :
    ¬ ((s.group g).config.mode = .coalesce ∧ ∃ e ∈ (s.group g).entries, e.address = address) := by
  rintro ⟨hm, e, he, ha⟩
  rcases h with h | h
  · simp [hm] at h
  · exact h e he ha

theorem addRequest_appends {data : Word} {mask : Mask}
    (h : (s.group g).config.mode = .ordered ∨ ∀ e ∈ (s.group g).entries, e.address ≠ address)
    (hcap : (s.group g).entries.length < (s.group g).config.cap) (hfree : 0 < s.free) :
    s.addRequest g address data mask = ((s.setFree (s.free - 1)).setGroup g { s.group g with
      entries := (s.group g).entries ++ [newEntry address data mask] }, .appended) := by
  rcases addRequest_cases s g address data mask with ⟨hm, hx, -⟩ | ⟨-, -, e⟩ | ⟨-, hr, -⟩
  · exact absurd ⟨hm, hx⟩ (not_merges h)
  · exact e
  · simp [(hasRoom_iff s g).mpr ⟨hcap, hfree⟩] at hr

theorem addRequest_noRoom {data : Word} {mask : Mask}
    (h : (s.group g).config.mode = .ordered ∨ ∀ e ∈ (s.group g).entries, e.address ≠ address)
    (hfull : (s.group g).config.cap ≤ (s.group g).entries.length ∨ s.free = 0) :
    s.addRequest g address data mask = (s, .noRoom) := by
  rcases addRequest_cases s g address data mask with ⟨hm, hx, -⟩ | ⟨-, hr, -⟩ | ⟨-, -, e⟩
  · exact absurd ⟨hm, hx⟩ (not_merges h)
  · obtain ⟨hcap, hfree⟩ := (hasRoom_iff s g).mp hr
    omega
  · exact e

/-- R71: an overflow, as it is noted. -/
theorem noteOverflow_eq (s : State) (g : GroupId) : s.noteOverflow g = overflowNoted s g := by
  unfold State.noteOverflow overflowNoted
  rw [offerPlain_eq]
  rfl

theorem captureBeat_refused (h : s.addRequest g address b.data b.mask = (s, .noRoom))
    (ho : (s.group g).config.overflow = .refuse) :
    s.captureBeat id k address b g = (overflowNoted s g, .finished .error 0) := by
  simp only [State.captureBeat, h, ho, noteOverflow_eq]

theorem captureBeat_through (h : s.addRequest g address b.data b.mask = (s, .noRoom))
    (ho : (s.group g).config.overflow = .through) : s.captureBeat id k address b g =
      ((overflowNoted s g).handOver (passWrite id k address b (some g)), .outstanding) := by
  simp only [State.captureBeat, h, ho, noteOverflow_eq]

/-- R34, R35: each byte of a merge is the new one where the mask selects it. -/
theorem mergeBytes_byte (m : Mask) (new old : Word) {n : Nat} (hn : n < 4) : (mergeBytes m new old).extractLsb' (8 * n) 8 =
    if m.getLsbD n then new.extractLsb' (8 * n) 8 else old.extractLsb' (8 * n) 8 := by
  have bits : (maskBits m).extractLsb' (8 * n) 8 = if m.getLsbD n then 0xFF#8 else 0#8 := by
    revert n m
    decide +kernel
  have ones : ∀ j < 8, (0xFF#8).getLsbD j = true := by decide
  apply BitVec.eq_of_getLsbD_eq
  intro j hj
  have low : 8 * n + j < 32 := by omega
  have bit : (maskBits m).getLsbD (8 * n + j) = m.getLsbD n := by
    have at_j := congrArg (fun w : Byte => w.getLsbD j) bits
    rw [BitVec.getLsbD_extractLsb', decide_eq_true hj, Bool.true_and] at at_j
    rw [at_j]
    cases m.getLsbD n
    · exact BitVec.getLsbD_zero
    · exact ones j hj
  have merged : (mergeBytes m new old).getLsbD (8 * n + j) =
      if m.getLsbD n then new.getLsbD (8 * n + j) else old.getLsbD (8 * n + j) := by
    simp only [mergeBytes, BitVec.getLsbD_or, BitVec.getLsbD_and, BitVec.getLsbD_not, bit, low, decide_true, Bool.true_and]
    cases m.getLsbD n <;> simp
  rw [BitVec.getLsbD_extractLsb', merged]
  split <;> rw [BitVec.getLsbD_extractLsb']

/-- Settles O36: the bytes of a merge, and the three answers of the store to a captured beat. -/
theorem writeBeatsThatAreCaptured : Obligations.WriteBeatsThatAreCaptured := by
  unfold Obligations.WriteBeatsThatAreCaptured
  refine ⟨fun m new old n hn => mergeBytes_byte m new old hn, fun s id k x b i g hb hi hg hs hf => ?_⟩
  have captured : s.decideWrite id x k b = s.captureBeat id k (beatAt x k) b g :=
    (decideWrite_governed hb hi hg).trans (if_pos ⟨hs, hf⟩)
  rw [captured]
  refine ⟨fun e before behind hm hl he hbefore => ?_, fun hnew => ⟨fun hcap hfree => ?_, fun hfull => ⟨fun ho => ?_, fun ho => ?_⟩⟩⟩
  · simp only [State.captureBeat, addRequest_merges hm hl he hbefore]
    rfl
  · simp only [State.captureBeat, addRequest_appends hnew hcap hfree]
    rfl
  · exact captureBeat_refused (addRequest_noRoom hnew hfull) ho
  · exact captureBeat_through (addRequest_noRoom hnew hfull) ho

/-! ## Read beats (R74, R75) -/

theorem decideRead_ungoverned (h : NotGoverned s (beatAt x k)) : s.decideRead id x k =
    (s.handOver { address := beatAt x k, access := .read, mark := none, id, beat := k }, .outstanding) := by
  unfold State.decideRead
  rw [governing_of_notGoverned (show NotGoverned s (x.beatAddress k) from h)]
  rfl

/-- R74: what a beat with a governing window is overlaid with decides it. -/
theorem decideRead_passed (h : Governs s (beatAt x k) i) (he : s.mergeEntries (s.window i) (beatAt x k) = []) :
    s.decideRead id x k = (s.handOver { address := beatAt x k, access := .read, mark := some (s.window i).group, id, beat := k },
      .outstanding) := by
  unfold State.decideRead
  rw [governing_of_governs (show Governs s (x.beatAddress k) i from h)]
  dsimp only
  rw [show s.mergeEntries (s.window i) (x.beatAddress k) = [] from he]
  rfl

theorem decideRead_overlaid (h : Governs s (beatAt x k) i) {es : List Entry}
    (he : s.mergeEntries (s.window i) (beatAt x k) = es) (hes : es ≠ []) : s.decideRead id x k =
      if (overlayOf es).mask = 0xF then (s, .finished .okay (overlayOf es).data)
      else (s.handOver { address := beatAt x k, access := .read, mark := some (s.window i).group, id, beat := k,
                         overlay := some (overlayOf es) }, .outstanding) := by
  obtain ⟨e, rest, rfl⟩ := List.exists_cons_of_ne_nil hes
  unfold State.decideRead
  rw [governing_of_governs (show Governs s (x.beatAddress k) i from h)]
  dsimp only
  rw [show s.mergeEntries (s.window i) (x.beatAddress k) = e :: rest from he]
  rfl

theorem mergeEntries_cases (s : State) (w : Window) (address : Word) :
    s.mergeEntries w address = [] ∨ s.mergeEntries w address = s.lookup w.group address := by
  unfold State.mergeEntries
  cases w.read with
  | pass => exact .inl rfl
  | merge =>
    cases (s.group w.group).state
    case idle => exact .inl rfl
    case releasing => exact .inl rfl
    all_goals exact .inr rfl

theorem mergeEntries_of_pass {w : Window} (h : w.read = .pass ∨ (s.group w.group).state = .idle) :
    s.mergeEntries w address = [] := by
  unfold State.mergeEntries
  rcases h with h | h
  · rw [h]
  · rw [h]
    cases w.read <;> rfl

theorem mergeEntries_of_merge {w : Window} (h : w.read = .merge) (hi : (s.group w.group).state ≠ .idle)
    (hr : (s.group w.group).state ≠ .releasing) : s.mergeEntries w address = s.lookup w.group address := by
  unfold State.mergeEntries
  rw [h]
  cases hs : (s.group w.group).state
  case idle => exact absurd hs hi
  case releasing => exact absurd hs hr
  all_goals rfl

/-- R75: the overlay `o` with the entries of a lookup, in list order. -/
def overlayOn (o : Overlay) (es : List Entry) : Overlay :=
  es.foldl (fun o e => ⟨mergeBytes e.mask e.data o.data, o.mask ||| e.mask⟩) o

theorem overlayOn_mask (o : Overlay) (es : List Entry) (n : Nat) :
    (overlayOn o es).mask.getLsbD n = (o.mask.getLsbD n || es.any fun e => e.mask.getLsbD n) := by
  induction es generalizing o with
  | nil => simp [overlayOn]
  | cons e rest ih =>
    refine (ih ⟨mergeBytes e.mask e.data o.data, o.mask ||| e.mask⟩).trans ?_
    rw [BitVec.getLsbD_or, List.any_cons, Bool.or_assoc]

/-- R75: the newest entry that selects a byte gives it. -/
theorem overlayOn_byte (o : Overlay) (es : List Entry) {n : Nat} (hn : n < 4) :
    (overlayOn o es).data.extractLsb' (8 * n) 8 =
      ((es.filter fun e => e.mask.getLsbD n).getLast?.map fun e => e.data.extractLsb' (8 * n) 8).getD
        (o.data.extractLsb' (8 * n) 8) := by
  induction es generalizing o with
  | nil => rfl
  | cons e rest ih =>
    refine (ih ⟨mergeBytes e.mask e.data o.data, o.mask ||| e.mask⟩).trans ?_
    rw [mergeBytes_byte e.mask e.data o.data hn]
    cases he : e.mask.getLsbD n with
    | false => simp only [List.filter_cons, he, Bool.false_eq_true, if_false]
    | true =>
      simp only [List.filter_cons, he, if_true, List.getLast?_cons, Option.map_some, Option.getD_some]
      cases (rest.filter fun e => e.mask.getLsbD n).getLast? <;> rfl

/-- Settles O37: the bytes of an overlay, and what the entries found make of a beat. -/
theorem readBeatsAreMerged : Obligations.ReadBeatsAreMerged := by
  unfold Obligations.ReadBeatsAreMerged
  refine ⟨fun es n hn => ⟨?_, ?_⟩, fun s id k x => ⟨decideRead_ungoverned, fun i g es hi hg hes => ?_⟩⟩
  · refine (overlayOn_mask ⟨0, 0⟩ es n).trans ?_
    rw [show (⟨0, 0⟩ : Overlay).mask.getLsbD n = false from BitVec.getLsbD_zero, Bool.false_or]
  · refine (overlayOn_byte ⟨0, 0⟩ es hn).trans ?_
    congr 1
    revert hn n
    decide
  · subst hg
    have found : s.lookup (s.window i).group (beatAt x k) = es := by
      rw [hes]
      exact List.filter_congr fun e _ => by simp [beq_eq_decide]
    refine ⟨fun hpass => decideRead_passed hi ?_, fun hm hidle hr hne => ?_⟩
    · rcases hpass with h | h | h
      · exact mergeEntries_of_pass (.inl h)
      · exact mergeEntries_of_pass (.inr h)
      · rcases mergeEntries_cases s (s.window i) (beatAt x k) with e | e
        · exact e
        · exact e.trans (found.trans h)
    · have overlaid := decideRead_overlaid (id := id) hi ((mergeEntries_of_merge hm hidle hr).trans found) hne
      exact ⟨fun hfull => overlaid.trans (if_pos hfull), fun hpart => overlaid.trans (if_neg hpart)⟩

end Sys2Proof.Machine
end

section
/-!
The memory port: the arrival of a pass-through request and the grants (R77, R96 to R99), and the end of a pass-through request by
a response or by a timeout (R76, R77, R100 to R102).
-/
namespace Sys2Proof.Machine

open Safety

variable {s p pre : State} {tag : TagId} {r : PassRequest} {rest : List PassRequest} {e : Entry} {x : TagState}
  {request : PortRequest} {n m : Nat} {answer : Answer} {data : Word} {c : Instr} {post : State → State} {g : GroupId}

/-! ## Grants (R98, R99) -/

theorem grantOne_issuesPass (ht : IsLowestFree s.port tag) (hw : s.port.waiting = r :: rest)
    (hl : s.engine.write ≠ .requested ∨ s.port.lastGranted = .release) : s.grantOne = { s with port := { s.port with
      tags := s.port.tags.set tag.val (.busy (.passThrough r) 0 s.port.timeout)
      waiting := rest, lastGranted := .passThrough } } := by
  unfold State.grantOne
  rw [(freeTag?_eq_some_iff _ _).mpr ht, (winner_eq_passThrough_iff _).mpr ⟨by simp [hw], hl⟩]
  simp only [State.issuePass, hw]
  rfl

theorem grantOne_issuesRelease (ht : IsLowestFree s.port tag) (hw : s.engine.write = .requested) (hc : s.engine.copy = some e)
    (hl : s.port.waiting = [] ∨ s.port.lastGranted = .passThrough) : s.grantOne = writeIssued s s.engine tag e := by
  unfold State.grantOne
  rw [(freeTag?_eq_some_iff _ _).mpr ht, (winner_eq_release_iff _).mpr ⟨hw, hl⟩]
  simp only [State.issueRelease, hc]
  rfl

theorem exec_grant (h : TakesEvents s) : exec .grant s = .next s.grantOne := congrArg _ (State.whenRunning_taken h)

/-- R77, R96, R97: a pass-through request has taken the last place of its side. -/
def State.passArrived (s : State) (r : PassRequest) : State :=
  { s with port := { s.port with waiting := s.port.waiting ++ [r], settle := settleRaised s.port r.mark } }

theorem handOver_eq (s : State) (r : PassRequest) : s.handOver r = (s.passArrived r).grantOne := by
  unfold State.passArrived
  rw [← changeSettle_raised]
  rfl

/-- Settles O38: the arrival with and without a FREE tag, and what a grant issues. -/
theorem tagsAreGrantedByTheArbiter : Obligations.TagsAreGrantedByTheArbiter := by
  unfold Obligations.TagsAreGrantedByTheArbiter
  refine ⟨fun s r hn => ?_, fun s r tag ht hw he => ?_, fun s h hn => ?_, fun s tag r rest h ht hw hl => ?_,
    fun s tag e h ht hw hc hl => ?_⟩
  · rw [handOver_eq, grantOne_of_noGrantDue (noGrantDue_of_noFreeTag (s := s.passArrived r) hn)]
    rfl
  · have alone : (s.passArrived r).port.waiting = [r] := congrArg (· ++ [r]) hw
    rw [handOver_eq, grantOne_issuesPass (s := s.passArrived r) ht alone (.inl he)]
    rfl
  · rw [exec_grant h]
    rcases hn with hn | ⟨hw, he⟩
    · rw [grantOne_of_noGrantDue (noGrantDue_of_noFreeTag hn)]
    · rw [grantOne_of_noGrantDue (noGrantDue_of_nothing_waits hw he)]
  · rw [exec_grant h, grantOne_issuesPass ht hw hl]
  · rw [exec_grant h, grantOne_issuesRelease ht hw hc hl]

/-! ## Responses and timeouts (R100 to R102) -/

theorem exec_response (h : TakesEvents s) (tag : TagId) (answer : Answer) (data : Word) :
    exec (.response tag answer data) s = .next (s.takeResponse tag answer data) :=
  congrArg _ (State.whenRunning_taken h)

theorem exec_responseTimeout (h : TakesEvents s) (tag : TagId) : exec (.responseTimeout tag) s = .next (s.timeOut tag) :=
  congrArg _ (State.whenRunning_taken h)

/-- R101: a late response frees its tag and reaches no block. -/
theorem takeResponse_late (ht : s.tag tag = .abandoned) (answer : Answer) (data : Word) :
    s.takeResponse tag answer data = (withTag s tag .free).grantAll := by
  unfold State.takeResponse
  rw [ht]
  rfl

theorem tag_withTag (s : State) (tag : TagId) (x : TagState) (k : TagId) :
    (withTag s tag x).tag k = if k = tag then x else s.tag k := tag_of_set (s := s) rfl k

/-- R102: a timeout that leaves a tag not ABANDONED queues nothing. -/
theorem timedOut_of_other {k : TagId} (hne : k ≠ tag) (hk : s.tag k ≠ .abandoned) : timedOut s tag = withTag s tag .abandoned :=
  if_neg fun ha => hk ((if_neg hne).symm.trans ((tag_withTag s tag .abandoned k).symm.trans (ha k)))

/-- R102: the timeout that abandons the last tag queues DOWNSTREAM_STUCK. -/
theorem timedOut_of_last (h : ∀ k, k ≠ tag → s.tag k = .abandoned) :
    timedOut s tag = withRecord (withTag s tag .abandoned) (plainRecord s .downstreamStuck none) := by
  refine if_pos fun k => ?_
  rw [tag_withTag]
  split
  · rfl
  · next hk => exact h k hk

theorem result_eq (r : PassRequest) (answer : Answer) (data : Word) : r.result answer data = passResult r answer data := by
  unfold PassRequest.result passResult
  cases answer
  · cases r.access
    · cases r.overlay <;> rfl
    · rfl
  · rfl

/-- R77: the end of a pass-through request. -/
theorem endPass_eq (s : State) (r : PassRequest) (answer : Answer) (data : Word) :
    s.endPass r answer data = passEnded s r (passResult r answer data) := by
  rw [← result_eq]
  unfold passEnded
  rw [← changeSettle_lowered]
  rfl

/-- R77, R83, R100, R101: the end of a pass-through request, whose beat finishes in `pre`. -/
theorem exec_endsPass (h : TakesEvents s) (he : EndsRequestIn s c tag answer data pre post)
    (ht : s.tag tag = .busy (.passThrough r) n m) (hp : p = passEnded pre r (passResult r answer data)) :
    exec c s = .next (post p.settleOn).grantAll ∧ FreesAtMost post ∧ TakesEvents p := by
  rcases he with ⟨rfl, rfl, rfl⟩ | ⟨rfl, rfl, rfl, rfl⟩
  · refine ⟨?_, .inr ⟨tag, rfl⟩, hp ▸ h⟩
    rw [exec_response h, State.takeResponse, ht, hp, ← endPass_eq]
    rfl
  · have takes : TakesEvents (timedOut s tag) := by
      unfold timedOut
      dsimp only
      split <;> exact h
    refine ⟨?_, .inl rfl, hp ▸ takes⟩
    have handed : p.settleOn = (timedOut s tag).handBack (.passThrough r) .error 0 := by
      rw [hp]
      exact congrArg State.settleOn (endPass_eq (timedOut s tag) r .error 0).symm
    rw [exec_responseTimeout h, State.timeOut, ht, handed, ← noteStuck_withTag]
    rfl

theorem settleOn_of_unsettled (h : s.engine.state ≠ .settling ∨ ∀ g, s.engine.group = some g → s.settleCount g ≠ 0) :
    s.settleOn = s := by
  refine if_neg fun hi => ?_
  obtain ⟨hs, g, hg, h0⟩ := (isSettled_iff s).mp hi
  rcases h with h | h
  · exact h hs
  · exact h g hg h0

theorem settleOn_of_settled (hs : s.engine.state = .settling) (hg : s.engine.group = some g) (h0 : s.settleCount g = 0) :
    s.settleOn = s.endSettling fun s => s.endRelease .complete :=
  if_pos ((isSettled_iff s).mpr ⟨hs, g, hg, h0⟩)

theorem nextEntry_of_standsAt (hg : s.engine.group = some g) (h : StandsAt s g e) : s.nextEntry = some e := by
  obtain ⟨h1, h2⟩ := nextEntry_of_group hg
  rcases h with ⟨hk, he⟩ | ⟨hk, he⟩
  · exact (h1 hk).trans he
  · exact (h2 hk).trans he

/-- R77, R98: the end of a pass-through request with no request waiting for a tag and no release in SETTLING. -/
theorem exec_endsPass_alone (h : TakesEvents s) (he : EndsRequestIn s c tag answer data pre post)
    (ht : s.tag tag = .busy (.passThrough r) n m) (hs : pre.engine.state ≠ .settling)
    (hd : NoGrantDue (post (passEnded pre r (passResult r answer data)))) :
    exec c s = .next (post (passEnded pre r (passResult r answer data))) := by
  have settles : (passEnded pre r (passResult r answer data)).settleOn = passEnded pre r (passResult r answer data) :=
    settleOn_of_unsettled (.inl hs)
  rw [(exec_endsPass h he ht rfl).1, settles, grantAll_of_noGrantDue hd]

theorem noFreeTag_of_stuck (h : ∀ k, s.tag k = .abandoned) : NoFreeTag s.port := fun k hf => by cases (h k).symm.trans hf

theorem isLowestFree_freed (h : NoFreeTag s.port) (tag : TagId) : IsLowestFree (withTag s tag .free).port tag := by
  refine ⟨(tag_withTag s tag .free tag).trans (if_pos rfl), fun k hk hf => ?_⟩
  have other := (tag_withTag s tag .free k).symm.trans hf
  rw [if_neg (ne_of_lt hk)] at other
  exact h k other

/-- R98: once the one freed tag is taken again, no tag is FREE and nothing more is granted. -/
theorem grantAll_freed (h : NoFreeTag s.port) (hx : x ≠ .free) (hg : (withTag s tag .free).grantOne = withTag p tag x)
    (hp : p.port.tags = s.port.tags) : (withTag s tag .free).grantAll = withTag p tag x := by
  have full : NoGrantDue (withTag p tag x) := by
    refine noGrantDue_of_noFreeTag fun k hf => ?_
    have other := (tag_withTag p tag x k).symm.trans hf
    split at other
    · exact hx other
    · exact h k (by rw [← hp]; exact other)
  rw [grantAll_of_grantOne (hg ▸ full), hg]

theorem grantAll_freed_pass (h : NoFreeTag s.port) (hw : s.port.waiting = r :: rest)
    (hl : s.engine.write ≠ .requested ∨ s.port.lastGranted = .release) : (withTag s tag .free).grantAll =
      { s with port := { s.port with
        tags := s.port.tags.set tag.val (.busy (.passThrough r) 0 s.port.timeout)
        waiting := rest, lastGranted := .passThrough } } := by
  refine grantAll_freed (p := { s with port := { s.port with waiting := rest, lastGranted := .passThrough } }) h
    TagState.noConfusion ?_ rfl
  rw [grantOne_issuesPass (s := withTag s tag .free) (isLowestFree_freed h tag) hw hl]
  simp only [Vector.set_set]

theorem grantAll_freed_release (h : NoFreeTag s.port) (hw : s.engine.write = .requested) (hc : s.engine.copy = some e)
    (hl : s.port.lastGranted = .passThrough) :
    (withTag s tag .free).grantAll = writeIssued s s.engine tag e := by
  refine grantAll_freed (p := { s with
    port := { s.port with lastGranted := .release }
    engine := { s.engine with write := .issued, copy := some e } }) h TagState.noConfusion ?_ rfl
  rw [grantOne_issuesRelease (s := withTag s tag .free) (isLowestFree_freed h tag) hw hc (.inr hl)]
  simp only [writeIssued, Vector.set_set]

/-- R83, R84: SETTLING ends with the list already walked to its end: the release completes, and the event goes on. -/
theorem goesOn_settleOn (h : TakesEvents p) (hp : FreesAtMost post) (hs : p.engine.state = .settling)
    (hg : p.engine.group = some g) (h0 : p.settleCount g = 0) (hw : WalkedToEnd p g) :
    GoesOn (released (p.completeGroup g p.engine.written p.engine.failed) g) post (post p.settleOn).grantAll := by
  rw [settleOn_of_settled hs hg h0, endSettling_of_end (nextEntry_of_walkedToEnd hg hw)]
  exact goesOn_endRelease hp (finishRelease_complete (s := p) (e := { p.engine with state := .draining }) hg)
    (takesEvents_released h (sparesSide_completeGroup ..))

/-- Settles O39: the end of a request by a response and by a timeout, late responses, STUCK, and the end of SETTLING. -/
theorem passThroughRequestsEndOrStick : Obligations.PassThroughRequestsEndOrStick := by
  unfold Obligations.PassThroughRequestsEndOrStick
  refine ⟨fun s t r n m answer data h ht hw he hs => ?_, fun s t u r n m h ht hu hua hw he hs => ?_,
    fun s t answer data h ht hw he => ?_, fun s t answer data h ht => ?_, fun s t answer data h ht => ?_,
    fun s t h ht => ?_, fun s t r n m h ht hall hs => ?_, fun s t r rest answer data h hall hw he => ?_,
    fun s p c t r n m answer data pre post h hends ht hp => ⟨fun hn => ?_, fun g hs hg h0 => ⟨fun e he => ?_, fun hw => ?_⟩⟩⟩
  · exact exec_endsPass_alone h (.inl ⟨rfl, rfl, rfl⟩) ht hs (noGrantDue_of_nothing_waits hw he)
  · have abandoned := timedOut_of_other hu hua
    rw [exec_endsPass_alone (data := 0) h (.inr ⟨rfl, rfl, rfl, rfl⟩) ht (by rw [abandoned]; exact hs)
      (by rw [abandoned]; exact noGrantDue_of_nothing_waits hw he), abandoned]
    rfl
  · rw [exec_response h, takeResponse_late ht,
      grantAll_of_noGrantDue (noGrantDue_of_nothing_waits (s := withTag s t .free) hw he)]
  · exact ⟨_, exec_response h t answer data, takeResponse_late ht answer data ▸ granted_grantAll h⟩
  · rw [exec_response h, State.takeResponse, ht]
  · rw [exec_responseTimeout h, State.timeOut]
    rcases ht with ht | ht <;> rw [ht]
  · have last := timedOut_of_last hall
    have stuck : NoGrantDue (passEnded (timedOut s t) r (passResult r .error 0)) := by
      rw [last]
      refine noGrantDue_of_noFreeTag fun k hf => ?_
      have other := (tag_withTag s t .abandoned k).symm.trans hf
      split at other
      · cases other
      · next hk => cases (hall k hk).symm.trans other
    rw [exec_endsPass_alone (data := 0) h (.inr ⟨rfl, rfl, rfl, rfl⟩) ht (by rw [last]; exact hs) stuck, last]
    rfl
  · rw [exec_response h, takeResponse_late (hall t), grantAll_freed_pass (noFreeTag_of_stuck hall) hw (.inl he)]
  · obtain ⟨ends, frees, takes⟩ := exec_endsPass h hends ht hp
    rw [settleOn_of_unsettled hn] at ends
    exact ⟨_, ends, granted_grantAll (takesEvents_post frees takes)⟩
  · obtain ⟨ends, frees, takes⟩ := exec_endsPass h hends ht hp
    rw [settleOn_of_settled hs hg h0, endSettling_of_entry (nextEntry_of_standsAt hg he)] at ends
    exact ⟨_, ends, granted_grantAll (takesEvents_post frees (by exact takes))⟩
  · obtain ⟨ends, frees, takes⟩ := exec_endsPass h hends ht hp
    exact ⟨_, ends, goesOn_settleOn takes frees hs hg h0 hw⟩

end Sys2Proof.Machine
end

section
/-!
A release write that is followed by the next (R42, R43, R84 to R86).
-/
namespace Sys2Proof.Machine

open Safety

variable {s pre walked : State} {g : GroupId} {tag : TagId} {e e0 w : Entry} {es : List Entry} {answer : Answer} {c : Instr}
  {post : State → State} {n m cursor : Nat} {x : TagState} {context : Engine}

/-! ## The step to the next entry (R42, R43, R84, R85) -/

/-- R42, R43, R85: the step of the walk past the entry just written, to the entry `e` that stands next. A one-shot release frees
the head of the list, and the part becomes `walked`; a repeating one moves its cursor. -/
abbrev PassesTo (s pre : State) (g : GroupId) (e : Entry) (walked : State) (cursor : Nat) : Prop :=
  (∃ e0 es, s.engine.kind = some .oneShot ∧ (s.group g).entries = e0 :: e :: es ∧
      walked = { pre.setGroup g { s.group g with entries := e :: es } with free := s.free + 1 } ∧
      cursor = s.engine.cursor) ∨
    (s.engine.kind = some .repeating ∧ (s.group g).entries[s.engine.cursor + 1]? = some e ∧ walked = pre ∧
      cursor = s.engine.cursor + 1)

/-- R84, R86: the release context once the outcome of its write has been counted and the write of the next entry `e` has been
asked for. -/
def Engine.askedNext (c : Engine) (answer : Answer) (cursor : Nat) (e : Entry) : Engine :=
  { c.writeCounted answer with cursor := cursor, write := .requested, copy := some e }

theorem freeHead_of_cons (h : (s.group g).entries = e0 :: es) :
    s.freeHead g = { s.setGroup g { s.group g with entries := es } with free := s.free + 1 } := by
  unfold State.freeHead
  rw [h]
  rfl

/-- R42, R43, R85: the part once the outcome of a write has been counted and its entry passed, the list not walked to its end. -/
theorem passed_next (hw : WriteEnds s c answer pre post) (hg : s.engine.group = some g)
    (h : PassesTo s pre g e walked cursor) :
    ((pre.countWrite answer).passEntry g).dropWrite =
        walked.setEngine { s.engine.writeCounted answer with cursor := cursor } ∧
      (walked.setEngine { s.engine.writeCounted answer with cursor := cursor }).nextEntry = some e := by
  rw [countWrite_eq, hw.engine]
  rcases h with ⟨e0, es, hk, he, rfl, rfl⟩ | ⟨hk, he, rfl, rfl⟩
  · refine ⟨?_, nextEntry_of_standsAt (g := g) hg (.inl ⟨hk, ?_⟩)⟩
    · rw [passEntry_oneShot (by exact hk), freeHead_setEngine, freeHead_of_cons (by rw [hw.group]; exact he), hw.group,
        hw.free]
      rfl
    · have hl := congrArg GroupRecord.entries (State.group_setGroup_self pre g { s.group g with entries := e :: es })
      exact congrArg (·[0]?) hl
  · refine ⟨?_, nextEntry_of_standsAt (g := g) hg (.inr ⟨hk, ?_⟩)⟩
    · rw [passEntry_repeating (by exact hk)]
      rfl
    · exact (congrArg (fun r : GroupRecord => r.entries[s.engine.cursor + 1]?) (hw.group g)).trans he

/-- R85, R86: an outcome that is no fault is counted, and the walk goes on. -/
theorem writeEnded_walksOn (hs : s.engine.state = .draining) (hg : s.engine.group = some g)
    (ha : answer = .okay ∨ (s.group g).config.errorPolicy = .carryOn) : s.writeEnded answer =
      (((s.countWrite answer).passEntry g).dropWrite).walkOn fun s => s.endRelease .complete := by
  rcases writeEnded_cases s answer with ⟨k, -, hk, h⟩ | ⟨k, hk, -, -⟩ | ⟨hk, -⟩
  · obtain rfl : g = k := Option.some.inj (hg.symm.trans hk)
    rcases h with ⟨rfl, hp, -⟩ | ⟨-, h⟩
    · exact absurd ha (by simp [hp])
    · exact h
  · exact absurd (hs.symm.trans hk) (by simp)
  · exact absurd hk (by simp [hs, hg])

/-- R85, R86: a write that does not end the walk asks for the write of the next entry. -/
theorem writeEnded_next (hw : WriteEnds s c answer pre post) (hs : s.engine.state = .draining)
    (hg : s.engine.group = some g) (ha : answer = .okay ∨ (s.group g).config.errorPolicy = .carryOn)
    (h : PassesTo s pre g e walked cursor) :
    pre.writeEnded answer = walked.setEngine (s.engine.askedNext answer cursor e) := by
  obtain ⟨hv, hn⟩ := passed_next hw hg h
  rw [writeEnded_walksOn (hw.engine ▸ hs) (hw.engine ▸ hg) (hw.group g ▸ ha), hv]
  unfold State.walkOn
  rw [hn]
  rfl

/-! ## The grant that follows (R98, R102) -/

theorem WriteEnds.takes_passed (hw : WriteEnds s c answer pre post) (h : PassesTo s pre g e walked cursor) (context : Engine) :
    TakesEvents (post (walked.setEngine context)) := by
  refine takesEvents_post hw.frees ?_
  rcases h with ⟨-, -, -, -, rfl, -⟩ | ⟨-, -, rfl, -⟩ <;> exact hw.takes

theorem port_of_passesTo (h : PassesTo s pre g e walked cursor) : walked.port = pre.port := by
  rcases h with ⟨-, -, -, -, rfl, -⟩ | ⟨-, -, rfl, -⟩ <;> rfl

/-- R86, R95: the end of a release write that leaves the port not STUCK changes the state of its tag, and then asks for the next
write. -/
theorem exec_asksNext (h : TakesEvents s) (hends : EndsRequest c tag answer x) (ht : s.tag tag = .busy (.release w) n m)
    (hu : ∃ u, u ≠ tag ∧ s.tag u ≠ .abandoned) (hs : s.engine.state = .draining) (hg : s.engine.group = some g)
    (ha : answer = .okay ∨ (s.group g).config.errorPolicy = .carryOn) (hp : PassesTo s s g e walked cursor) :
    exec c s = .next ((withTag walked tag x).setEngine (s.engine.askedNext answer cursor e)).grantAll := by
  obtain ⟨pre, post, hw, ⟨rfl, rfl⟩ | ⟨rfl, rfl⟩⟩ := writeEnds_of_endsRequest h hends ht hu
  · rw [hw.ends, writeEnded_next hw hs hg ha hp]
    rfl
  · have hp' : PassesTo s (withTag s tag x) g e (withTag walked tag x) cursor := by
      rcases hp with ⟨e0, es, hk, he, rfl, hc⟩ | ⟨hk, he, rfl, hc⟩
      · exact .inl ⟨e0, es, hk, he, rfl, hc⟩
      · exact .inr ⟨hk, he, rfl, hc⟩
    rw [hw.ends, writeEnded_next hw hs hg ha hp']
    rfl

/-- Settles O43: the next write is asked for, and then granted or left to wait. -/
theorem releaseWalksOn : Obligations.ReleaseWalksOn := by
  unfold Obligations.ReleaseWalksOn
  refine ⟨fun s c t answer data pre post g e w n m walked context h hends ht hs hg ha hp hc => ⟨?_, ?_⟩,
    fun s c t x answer g e w n m walked context h hends ht hs hg ha hp hc hu => ?_⟩
  · have hw := writeEnds_of_endsRequestIn h hends ht
    have asked : context = s.engine.askedNext answer context.cursor e := hc
    refine ⟨_, hw.ends, ?_⟩
    rw [writeEnded_next hw hs hg ha hp, ← asked]
    exact granted_grantAll (hw.takes_passed hp context)
  · intro r rest hr hn hq
    have hw := writeEnds_of_endsRequestIn h hends ht
    have asked : context = s.engine.askedNext answer context.cursor e := hc
    obtain ⟨rfl, rfl⟩ : pre = s ∧ post = fun u => withTag u t .free := by
      rcases hends with ⟨-, hpre, hpost⟩ | ⟨hto, -⟩
      · exact ⟨hpre, hpost⟩
      · rw [hr] at hto
        cases hto
    have port := port_of_passesTo hp
    have requested : context.write = .requested := by rw [asked]; rfl
    have copied : context.copy = some e := by rw [asked]; rfl
    rw [hw.ends, writeEnded_next hw hs hg ha hp, ← asked, ← port]
    rw [← port] at hn hq
    exact ⟨fun hl => congrArg _ (grantAll_freed_release (s := walked.setEngine context) hn requested copied hl),
      fun hl => congrArg _ (grantAll_freed_pass (s := walked.setEngine context) hn hq (.inr hl))⟩
  · have asked : s.engine.askedNext answer context.cursor e = { context with write := .requested, copy := some e } := by
      rw [hc]
      rfl
    have port : (withTag walked t x).port = (withTag s t x).port := by
      unfold withTag
      rw [port_of_passesTo hp]
    rw [exec_asksNext h hends ht hu hs hg ha hp, asked]
    refine ⟨fun t' hl hq => ?_, fun hn => ?_⟩
    · have waits : (withTag walked t x).port.waiting = [] := port ▸ hq
      exact congrArg _ (grantAll_issues rfl rfl (port ▸ hl) waits)
    · exact congrArg _ (grantAll_of_noGrantDue (noGrantDue_of_noFreeTag (port ▸ hn)))

end Sys2Proof.Machine
end
